-- ==== Sys2Proof/Word.lean ====
section
/-!
DEFINITION. The words the manual names: bytes of the local port, ticks, and the fields of a frame
(11_formats.md). Widths only; every computation on them stands under Machine/.
-/

namespace Sys2Proof

/-- A byte of the local port (R163), a weight of a frame (R182), a request tag (R127). -/
abbrev Byte := BitVec 8

/-- A value of the tick counter (R1): 32 bits that wrap. -/
abbrev Tick := BitVec 32

/-- A sequence number, modulo 4096 (R54). -/
abbrev Seq := BitVec 12

/-- A station id, 0 to 31 (R6). -/
abbrev StationId := BitVec 5

/-- A rail group, 0 to 3 (R6). -/
abbrev Group := BitVec 2

/-- A class, 0 to 7 (R6). -/
abbrev ClassNo := BitVec 3

/-- A channel, 0 to 3 (R153). -/
abbrev Channel := BitVec 2

/-- A start offset in ticks, as a frame carries it (R59). -/
abbrev Offset := BitVec 16

/-- The configuration image: 47 bytes, stored as they come (R172, R185). -/
abbrev Image := Vector Byte 47

/-- The level of a bit cell on LINK: `true` is recessive (a 1 bit), `false` is dominant (a 0 bit) (R42). -/
abbrev Cell := Bool

end Sys2Proof
end

