-- ==== Sys2Proof/Config.lean ====
section
/-!
DEFINITION. What one implementation fixes, and the free values: constants with no body, of which no
proof can learn a value. The machine's own parameters are not here: the board controller loads them
(R4, R6), so they are read from the configuration image that State holds.
-/

namespace Sys2Proof

/-- Which of several events that are due at one instant is taken first (log 3). The manual lets either
be taken first (R35 to R40, R56, R76, R88, R96, R113, R150, R151, R155, R159). The argument is State's
counter of such choices. Free value. -/
opaque Config.firstTaken : Nat → Nat

/-- How many ticks after a taking the status byte is ready to be shifted out, where it is 1 or 2 (R163
says within 2 ticks, and that a byte clocked at once reads the filler, log 14). The argument is the Local Port's counter of takings. Free value. -/
opaque Config.statusDelay : Nat → Nat

/-- What SDO shows after a reset was released while CS_N is still low in the discarded transaction: the
manual does not say whether SDO is driven there, or with what (R163, R167, log 31). The arguments are the
tick and the byte's number in the transaction. Free value. -/
opaque Config.discardedSdo : Tick → Nat → Option Byte

end Sys2Proof
end

