-- ==== Sys2Proof/Syntax.lean ====
section
/-!
DEFINITION. The commands of the block: one constructor per row of spec/opcode_table.json, in the
table's order. A local-port command carries its parameter bytes as the fields they spell; an event
command carries only the name of the record, request or channel it concerns, since every level, cell
and tick its condition reads stands in State.
-/

namespace Sys2Proof

/-- One row of spec/opcode_table.json each. -/
inductive Instr where
  /-- POWER_ON_RESET (R81). -/
  | powerOnReset
  /-- RESET_RELEASE (R81). -/
  | resetRelease
  /-- READ_STATE (R178). -/
  | readState
  /-- READ_TIME (R178). -/
  | readTime
  /-- READ_EVENTS (R179). -/
  | readEvents
  /-- FETCH_RESULT (R170). -/
  | fetchResult
  /-- RESULT_CLOCKED_OUT (R170). -/
  | resultClockedOut
  /-- QUERY (R177): the tag byte. -/
  | query (tag : Byte)
  /-- SUBMIT (R175): the tag byte, the class byte, the two ticks. -/
  | submit (tag : Byte) (cls : Byte) (notBefore : Tick) (deadline : Tick)
  /-- CANCEL (R176): the tag byte. -/
  | cancel (tag : Byte)
  /-- ABORT (R176): the channel byte. -/
  | abort (channel : Byte)
  /-- JOIN (R174). -/
  | join
  /-- LEAVE (R174). -/
  | leave
  /-- RESUME (R174). -/
  | resume
  /-- CONFIGURE (R172): the 47 bytes of the image. -/
  | configure (image : Image)
  /-- READ_CONFIG (R173). -/
  | readConfig
  /-- READ_ERROR_RECORD (R180). -/
  | readErrorRecord
  /-- CLEAR_ERROR (R180). -/
  | clearError
  /-- READ_COUNTERS (R180). -/
  | readCounters
  /-- CLEAR_COUNTERS (R180). -/
  | clearCounters
  /-- READ_TABLE (R181): the index byte. -/
  | readTable (index : Byte)
  /-- READ_ROSTER (R181): the station id byte. -/
  | readRoster (id : Byte)
  /-- UNKNOWN_COMMAND (R164): the command byte, which names no command. -/
  | unknownCommand (code : Byte)
  /-- TRANSACTION_DISCARDED (R165): the bytes received in full before CS_N rose. -/
  | transactionDiscarded (received : List Byte)
  /-- BUS_SYNC_GAINED (R45). -/
  | busSyncGained
  /-- IDLE_COUNT_24 (R53). -/
  | idleCount24
  /-- ATTEMPT_START (R47). -/
  | attemptStart
  /-- ARBITRATION_LOST (R50). -/
  | arbitrationLost
  /-- READBACK (R52). -/
  | readback
  /-- FRAME_COMPLETED (R54). -/
  | frameCompleted
  /-- FRAME_END_RECEIVED (R61). -/
  | frameEndReceived
  /-- FRAME_CHECK_FAILED (R62). -/
  | frameCheckFailed
  /-- DRIVE_START (R98). -/
  | driveStart
  /-- DRIVE_END (R98). -/
  | driveEnd
  /-- STOP_FALL (R103). -/
  | stopFall
  /-- LONG_CLASSIFICATION (R104). -/
  | longClassification
  /-- STOP_RISE (R105). -/
  | stopRise
  /-- QUIESCE_END (R106). -/
  | quiesceEnd
  /-- BUS_FAULT (R107). -/
  | busFault
  /-- JOIN_INTERVAL_END (R84). -/
  | joinIntervalEnd
  /-- HOLD_EXPIRY (R28) of the record with this owner and claim sequence. -/
  | holdExpiry (owner : StationId) (seq : Seq)
  /-- RETIREMENT (R29) of the record with this owner and claim sequence. -/
  | retirement (owner : StationId) (seq : Seq)
  /-- HEAD_TO_SENDING (R132). -/
  | headToSending
  /-- DEADLINE_EXPIRY (R139) of the request with this tag. -/
  | deadlineExpiry (tag : Byte)
  /-- START_TICK_REACHED (R140) of the request with this tag. -/
  | startTickReached (tag : Byte)
  /-- CHANNEL_END (R156) of this channel. -/
  | channelEnd (channel : Channel)
  /-- START_BIT (R46). -/
  | startBit
  /-- ARBITRATION_WON (R50). -/
  | arbitrationWon
  deriving DecidableEq, Repr

end Sys2Proof
end

