-- ==== Sys2Proof/Machine/State.lean ====
section
/-!
DEFINITION. The state of one station as plain data, block by block as 00_scope.md lists the blocks,
the reasons a step can stop, and the state right after reset (R81).
-/

namespace Sys2Proof.Machine

/-! ### Names -/

/-- The six station states (R78). -/
inductive StationState where
  | offline | listening | active | quiesce | silent | configFault
  deriving DecidableEq, Repr

/-- The state a QUIESCE remembers (R78): LISTENING or ACTIVE. -/
inductive Working where
  | listening | active
  deriving DecidableEq, Repr

/-- The kinds of frame (R59). -/
inductive FrameKind where
  | cancel | claim | join
  deriving DecidableEq, Repr

/-- The states of a claim record (R19). -/
inductive RecordState where
  | pending | confirmed
  deriving DecidableEq, Repr

/-- The states of a request (R127). -/
inductive RequestState where
  | waiting | sending | pending | granted | firing | cancelling
  deriving DecidableEq, Repr

/-- How a request ended (R131). -/
inductive ResultOutcome where
  | done | aborted | cancelled | denied | voided
  deriving DecidableEq, Repr

/-- The reason a result gives (R131): `none` with DONE, ABORTED and CANCELLED. -/
inductive Reason where
  | none | deadline | horizon | attempts | silent | leave | fault
  deriving DecidableEq, Repr

/-- The kinds of detection (R97). -/
inductive DetectionKind where
  | crc | framing | readback | sequenceGap | groupMismatch | checkFail | claimRange
  | unknownTarget | outOfTurn | identity
  deriving DecidableEq, Repr

/-- The two lengths of a driven pulse (R97). -/
inductive PulseClass where
  | short | long
  deriving DecidableEq, Repr

/-- The two tolerance modes (R6, R118, R119). -/
inductive Tolerance where
  | latched | persistent
  deriving DecidableEq, Repr

/-- The status byte of a transaction (R166). -/
inductive Status where
  | ok | busy | notActive | wrongState | badParam | badConfig | unknownTag | tooLate | empty | idle
  deriving DecidableEq, Repr

/-! ### Frames on LINK -/

/-- The payload, which the kind decides (R59). A JOIN's fill is no field: it is always recessive. -/
inductive Payload where
  | cancel (target : Seq)
  | claim (cls : ClassNo) (group : Group) (weight : Byte) (offset : Offset)
  | join (group : Group)
  deriving DecidableEq, Repr

/-- The content of a frame (R58): the header's fields and the payload. -/
structure Frame where
  id      : StationId
  seq     : Seq
  digest  : Byte
  payload : Payload
  deriving DecidableEq, Repr

/-- The outgoing slot a frame was taken from (R145), with the tag of its request. -/
inductive SlotRef where
  | claim (tag : Byte)
  | cancel (tag : Byte)
  | join
  deriving DecidableEq, Repr

/-- A frame this station is sending: its content, fixed at the attempt start (R49), and its slot. -/
structure Sending where
  frame : Frame
  slot  : SlotRef
  deriving DecidableEq, Repr

/-- The receive side (R44). UNSYNCHRONISED counts recessive cells (R45), OUT OF FRAME holds the idle
count (R46), IN FRAME holds the cells decoded so far, the start bit first. -/
inductive Receive where
  | unsynchronised (run : Nat)
  | outOfFrame (idle : Nat)
  | inFrame (cells : List Cell)
  deriving DecidableEq, Repr

/-- The transmit side (R44). -/
inductive Transmit where
  | quiet
  | arbitrating (x : Sending)
  | sending (x : Sending)
  deriving DecidableEq, Repr

/-- The Bus Interface and the Frame Checker's receive shift state. -/
structure BusInterface where
  receive   : Receive
  transmit  : Transmit
  /-- DEFER (R53). -/
  defer     : Bool
  /-- The own sequence number (R54). -/
  ownSeq    : Seq
  /-- The level of LINK in the cell last sampled (R43). -/
  lastCell  : Cell
  /-- An attempt was made at this cell boundary, so no frame begins at it any more (R49, R133). -/
  attempted : Bool
  /-- What the peers will drive on LINK in the coming cells; an empty list is a released line (R42). -/
  peers     : List Cell
  deriving DecidableEq, Repr

/-! ### Station Controller -/

/-- The Station Controller (R78), with the two pieces R84 and R100 imply. -/
structure Controller where
  station      : StationState
  joinEnd      : Option Tick
  remembered   : Option Working
  joinOwed     : Bool
  /-- The join interval has ended and the move to ACTIVE waits for the own JOIN frame (R84). -/
  moveWaits    : Bool
  /-- An IDENTITY was taken and its entry to CONFIG_FAULT waits for the drive start (R93, R100). -/
  identityOwed : Bool
  deriving DecidableEq, Repr

/-! ### Claim Table -/

/-- A claim record (R19). -/
structure ClaimRecord where
  owner    : StationId
  seq      : Seq
  cls      : ClassNo
  group    : Group
  weight   : Byte
  start    : Tick
  received : Tick
  state    : RecordState
  tag      : Option Byte
  deriving DecidableEq, Repr

/-! ### Roster -/

/-- A roster entry (R66). `none` is unknown, UNSYNCHRONISED and absent, in this order. -/
structure RosterEntry where
  present     : Bool
  group       : Option Group
  expectation : Option Seq
  lastHeard   : Option Tick
  deriving DecidableEq, Repr

/-- The cleared entry (R66). -/
def RosterEntry.cleared : RosterEntry := ⟨false, none, none, none⟩

/-! ### STOP Monitor -/

/-- The drive state (R98): outside RELEASED its length class, the drive start and the drive end, and
whether the drive start has been taken, so that the station pulls the line. -/
inductive Drive where
  | released
  | driving (cls : PulseClass) (start : Tick) (finish : Tick) (pulling : Bool)
  deriving DecidableEq, Repr

/-- The classification of the last pulse (R101); with LONG the classification tick. -/
inductive Classification where
  | none
  | short
  | long (tick : Tick)
  deriving DecidableEq, Repr

/-- The STOP Monitor (R98, R101). -/
structure StopMonitor where
  drive          : Drive
  /-- The line reads LOW as last sampled. -/
  lineLow        : Bool
  fallTick       : Option Tick
  classification : Classification
  quiesceEnd     : Option Tick
  /-- BUS_FAULT was raised for the present pulse (R107: once for the pulse). -/
  busFaultRaised : Bool
  /-- This tick's sample was already taken as a fall or a rise (R101: one sample per tick). -/
  lineTaken      : Bool
  /-- A peer pulls STOP_N at this tick. -/
  peersLow       : Bool
  /-- Whether a peer will pull STOP_N, tick by tick; an empty list is a released line. -/
  peers          : List Bool
  deriving DecidableEq, Repr

/-! ### Request Unit -/

/-- A listed request (R127). The last field is the model's own (R151, log 32). -/
structure Request where
  tag       : Byte
  cls       : ClassNo
  notBefore : Tick
  deadline  : Tick
  state     : RequestState
  attempts  : Nat
  claimSeq  : Option Seq
  start     : Option Tick
  mark      : Bool
  /-- The deadline expiry was due when the request last moved to SENDING (R151). -/
  overdue   : Bool
  deriving DecidableEq, Repr

/-- A CANCEL frame in its slot (R145): the target sequence and the tag of its request. The last field is the
model's own (R150, log 34). -/
structure CancelSlot where
  target : Seq
  tag    : Byte
  /-- The start tick of its request was reached when the frame was placed (R150). -/
  late   : Bool
  deriving DecidableEq, Repr

/-- The Request Unit (R127, R145). The claim in the CLAIM slot names its request and nothing more
(R132); the CANCEL slots hold at most two frames, the one placed earlier first. -/
structure RequestUnit where
  list        : List Request
  claimSlot   : Option Byte
  cancelSlots : List CancelSlot
  joinSlot    : Bool
  deriving DecidableEq, Repr

/-- A busy channel's entry (R153). -/
structure ChannelEntry where
  tag     : Byte
  endTick : Tick
  deriving DecidableEq, Repr

/-! ### Detection Log -/

/-- The header handed with a detection, and its check (R116). -/
structure Header where
  sender   : StationId
  kind     : FrameKind
  seq      : Seq
  verified : Bool
  deriving DecidableEq, Repr

/-- The claim fields of a detection, as the frame carried them (R115). -/
structure ClaimFields where
  cls    : ClassNo
  group  : Group
  weight : Byte
  offset : Offset
  deriving DecidableEq, Repr

/-- An own detection as a block hands it to the Detection Log (R62, R67, R23, R25, R26). -/
structure Detection where
  kind     : DetectionKind
  header   : Option Header
  expected : Option Seq
  claim    : Option ClaimFields
  target   : Option Seq
  deriving DecidableEq, Repr

/-- An entry of the error record (R115). -/
structure ErrorEntry where
  detection : Detection
  tick      : Tick
  station   : StationState
  deriving DecidableEq, Repr

/-- The five counters (R123). -/
structure Counters where
  good    : Nat
  short   : Nat
  long    : Nat
  own     : Nat
  foreign : Nat
  deriving DecidableEq, Repr

/-- The five event flags (R125). -/
structure EventFlags where
  state    : Bool
  detect   : Bool
  recovery : Bool
  foreign  : Bool
  busFault : Bool
  deriving DecidableEq, Repr

/-- The Detection Log (07_detection_record_and_counters.md). The tolerance mode is in the image. -/
structure DetectionLog where
  record   : Option ErrorEntry
  overrun  : Nat
  counters : Counters
  flags    : EventFlags
  deriving DecidableEq, Repr

/-! ### Local Port -/

/-- A result entry (R131). The start tick is present with DONE and ABORTED. -/
structure ResultEntry where
  tag      : Byte
  outcome  : ResultOutcome
  reason   : Reason
  start    : Option Tick
  attempts : Nat
  deriving DecidableEq, Repr

/-- The transaction on the local port (R163): none while CS_N is high; the bytes of a command arrive; a
command was taken, with the ticks until its status is ready, the status and response fixed at the taking,
and whether the response still presents a result entry (R170); or the bytes are discarded until CS_N rises,
because a reset came since CS_N fell (R167). -/
inductive Transaction where
  | idle
  | receiving
  | answered (wait : Nat) (status : Status) (response : List Byte) (fetching : Bool)
  | discarded
  deriving DecidableEq, Repr

/-- The Local Port. -/
structure LocalPort where
  image       : Option Image
  digest      : Option Byte
  results     : List ResultEntry
  transaction : Transaction
  /-- A command was taken at this tick while a FETCH RESULT still presented its entry, whose eighth byte may
  complete at this same instant (R171). -/
  fetchEnding : Bool
  /-- How many commands have been taken (the model's own, log 14). -/
  takings     : Nat
  /-- Whether the board controller will hold CS_N low, tick by tick; an empty list is a high line (R163). -/
  selects     : List Bool
  deriving DecidableEq, Repr

/-! ### The station -/

/-- The state of the station, one field a block. -/
structure State where
  /-- RESET_N is held low, or power is not yet good (R81). -/
  resetHeld : Bool
  /-- The Time Base: the tick counter (R1). -/
  now       : Tick
  ctrl      : Controller
  bus       : BusInterface
  /-- The claim records in ascending order of start tick (R20). -/
  table     : List ClaimRecord
  /-- One entry for each station id (R66). -/
  roster    : Vector RosterEntry 32
  stop      : StopMonitor
  req       : RequestUnit
  /-- The four channels, idle or busy (R153). -/
  out       : Vector (Option ChannelEntry) 4
  log       : DetectionLog
  port      : LocalPort
  /-- How many choices between coinciding events have been made (the model's own, log 3). -/
  choices   : Nat
  /-- The commands that wait, first in, first out. -/
  pending   : List Instr
  deriving DecidableEq, Repr

/-- Why a step stops with a fault. -/
inductive Fault where
  /-- START_TICK_REACHED hands a start to a channel whose entry has not reached its end tick. R155 says
  that a start never finds a channel so, and gives no effect for it. Raised by `execStartTickReached`
  only. Safe: the model stops where the manual says the case does not occur. -/
  | channelHeld
  deriving DecidableEq, Repr

/-- Why a command has no meaning. -/
inductive Refusal where
  /-- The command's meaning is not written. No arm of `exec` answers it. Safe. -/
  | notModelled (mnemonic : String)
  /-- The term is no command the local port can take: an UNKNOWN_COMMAND whose byte names a command, or
  a TRANSACTION_DISCARDED whose bytes spell a whole one. Raised by `execUnknownCommand` and
  `execTransactionDiscarded`. Safe: no transaction spells such a term. -/
  | illFormed
  deriving DecidableEq, Repr

/-- A STOP Monitor at power-on (R98, R102). -/
def StopMonitor.reset : StopMonitor :=
  { drive := .released, lineLow := false, fallTick := none, classification := .none,
    quiesceEnd := none, busFaultRaised := false, lineTaken := false, peersLow := false, peers := [] }

/-- A Bus Interface at power-on (R44, R45, R53, R54). -/
def BusInterface.reset : BusInterface :=
  { receive := .unsynchronised 0, transmit := .quiet, defer := false, ownSeq := 0,
    lastCell := true, attempted := false, peers := [] }

/-- The station right after reset (R81): RESET_N released, every block at its reset values. The fields
the manual gives no value for are the model's choice (logs 4, 6, 13 to 17, 20, 21). -/
def State.reset : State :=
  { resetHeld := false
    now := 0
    ctrl := { station := .offline, joinEnd := none, remembered := none, joinOwed := false,
              moveWaits := false, identityOwed := false }
    bus := BusInterface.reset
    table := []
    roster := Vector.replicate 32 RosterEntry.cleared
    stop := StopMonitor.reset
    req := { list := [], claimSlot := none, cancelSlots := [], joinSlot := false }
    out := Vector.replicate 4 none
    log := { record := none, overrun := 0, counters := ⟨0, 0, 0, 0, 0⟩,
             flags := ⟨false, false, false, false, false⟩ }
    port := { image := none, digest := none, results := [], transaction := .idle, fetchEnding := false,
              takings := 0, selects := [] }
    choices := 0
    pending := [] }

end Sys2Proof.Machine
end

