-- ==== Sys2Proof/Machine/Flags.lean ====
section
/-!
DEFINITION. The event flags, the counters and the attention line (07, R123 to R126; 10, R168).
-/

namespace Sys2Proof.Machine

/-- The five event flags (R125), as names. -/
inductive Flag where
  | state | detect | recovery | foreign | busFault
  deriving DecidableEq, Repr

/-- Sets one flag; a flag already set stays set (R125). -/
def EventFlags.set (f : EventFlags) : Flag → EventFlags
  | .state    => { f with state := true }
  | .detect   => { f with detect := true }
  | .recovery => { f with recovery := true }
  | .foreign  => { f with foreign := true }
  | .busFault => { f with busFault := true }

/-- The flags as READ EVENTS leaves them, and as they stand after a reset (R125, R126). -/
def EventFlags.clear : EventFlags := ⟨false, false, false, false, false⟩

/-- At least one flag is set (R168). -/
def EventFlags.any (f : EventFlags) : Bool :=
  f.state || f.detect || f.recovery || f.foreign || f.busFault

/-- One more, but never beyond `top` (00_scope.md, "Saturating counts"). -/
def satSucc (top n : Nat) : Nat := if n < top then n + 1 else n

/-- The five counters (R123), as names. -/
inductive Counter where
  | good | short | long | own | foreign
  deriving DecidableEq, Repr

/-- The counters advance by one and saturate at 65,535 (R123). -/
def Counters.advance (c : Counters) : Counter → Counters
  | .good    => { c with good := satSucc 65535 c.good }
  | .short   => { c with short := satSucc 65535 c.short }
  | .long    => { c with long := satSucc 65535 c.long }
  | .own     => { c with own := satSucc 65535 c.own }
  | .foreign => { c with foreign := satSucc 65535 c.foreign }

/-- All five counters at 0 (R124). -/
def Counters.zero : Counters := ⟨0, 0, 0, 0, 0⟩

/-- Sets an event flag of the Detection Log. -/
def State.setFlag (s : State) (f : Flag) : State :=
  { s with log := { s.log with flags := s.log.flags.set f } }

/-- Advances a counter of the Detection Log. -/
def State.count (s : State) (c : Counter) : State :=
  { s with log := { s.log with counters := s.log.counters.advance c } }

/-- ATTN_N is held low while a result is queued or a flag is set, and is released while the reset is
held (R168). -/
def State.attnLow (s : State) : Bool :=
  !s.resetHeld && (!s.port.results.isEmpty || s.log.flags.any)

end Sys2Proof.Machine
end

