-- ==== Sys2Proof/Decode.lean ====
section
/-!
DEFINITION. How commands are spelt. The rows of spec/opcode_table.json give no bits, so no word spells a
command (`decodeTableWord`). The local port spells its commands in bytes: the command byte, then the
parameter bytes (R163, R164, R170 to R181); `portDecode` reads what one transaction carried.
-/

namespace Sys2Proof

/-- The command that a word spells by the table's bits: the table gives no row bits. -/
def decodeTableWord (_nbits _w : Nat) : Option Instr := none

/-- How many parameter bytes a command byte calls for; `none` where it names no command (R164). -/
def paramCount (code : Byte) : Option Nat :=
  match code.toNat with
  | 1 | 2 | 3 | 4 => some 0
  | 5 => some 1
  | 16 => some 10
  | 17 | 18 => some 1
  | 32 | 33 | 34 => some 0
  | 48 => some 47
  | 49 => some 0
  | 64 | 65 | 66 | 67 => some 0
  | 80 | 81 => some 1
  | _ => none

/-- Parameter byte `i`. -/
def paramByte (ps : List Byte) (i : Nat) : Byte := ps.getD i 0#8

/-- The tick in four parameter bytes from byte `i` on, most significant first (R163). -/
def paramTick (ps : List Byte) (i : Nat) : Tick :=
  paramByte ps i ++ paramByte ps (i + 1) ++ paramByte ps (i + 2) ++ paramByte ps (i + 3)

/-- The image in CONFIGURE's 47 parameter bytes (R172). -/
def paramImage (ps : List Byte) : Image := Vector.ofFn (fun i : Fin 47 => paramByte ps i.val)

/-- The command of a command byte with its parameter bytes (R170, R172 to R181). -/
def commandOf (code : Byte) (ps : List Byte) : Instr :=
  match code.toNat with
  | 1 => .readState
  | 2 => .readTime
  | 3 => .readEvents
  | 4 => .fetchResult
  | 5 => .query (paramByte ps 0)
  | 16 => .submit (paramByte ps 0) (paramByte ps 1) (paramTick ps 2) (paramTick ps 6)
  | 17 => .cancel (paramByte ps 0)
  | 18 => .abort (paramByte ps 0)
  | 32 => .join
  | 33 => .leave
  | 34 => .resume
  | 48 => .configure (paramImage ps)
  | 49 => .readConfig
  | 64 => .readErrorRecord
  | 65 => .clearError
  | 66 => .readCounters
  | 67 => .clearCounters
  | 80 => .readTable (paramByte ps 0)
  | 81 => .readRoster (paramByte ps 0)
  | _ => .unknownCommand code

/-- The bytes received in one transaction spell a whole command (R163, R164). -/
def spellsCommand : List Byte → Bool
  | [] => false
  | code :: ps =>
    match paramCount code with
    | none => true
    | some n => n ≤ ps.length

/-- What one transaction makes of the bytes received in full before CS_N rose: the command, with any
further bytes ignored (R163), or a discarded transaction when the last parameter byte is missing
(R165). -/
def portDecode (received : List Byte) : Instr :=
  match received with
  | [] => .transactionDiscarded []
  | code :: ps =>
    if spellsCommand received then commandOf code ps else .transactionDiscarded received

/-- The bytes of a tick, most significant first. -/
def tickBytes (t : Tick) : List Byte :=
  [t.extractLsb' 24 8, t.extractLsb' 16 8, t.extractLsb' 8 8, t.extractLsb' 0 8]

/-- The bytes the board controller sends for a command of the local port; `none` for the other rows,
which no transaction carries. -/
def portEncode : Instr → Option (List Byte)
  | .readState => some [1]
  | .readTime => some [2]
  | .readEvents => some [3]
  | .fetchResult => some [4]
  | .query tag => some [5, tag]
  | .submit tag cls notBefore deadline =>
    some ([16, tag, cls] ++ tickBytes notBefore ++ tickBytes deadline)
  | .cancel tag => some [17, tag]
  | .abort channel => some [18, channel]
  | .join => some [32]
  | .leave => some [33]
  | .resume => some [34]
  | .configure image => some (48 :: image.toList)
  | .readConfig => some [49]
  | .readErrorRecord => some [64]
  | .clearError => some [65]
  | .readCounters => some [66]
  | .clearCounters => some [67]
  | .readTable index => some [80, index]
  | .readRoster id => some [81, id]
  | .unknownCommand code => some [code]
  | .transactionDiscarded received => some received
  | .powerOnReset | .resetRelease | .resultClockedOut | .busSyncGained | .idleCount24
  | .attemptStart | .arbitrationLost | .readback | .frameCompleted | .frameEndReceived
  | .frameCheckFailed | .driveStart | .driveEnd | .stopFall | .longClassification | .stopRise
  | .quiesceEnd | .busFault | .joinIntervalEnd | .holdExpiry _ _ | .retirement _ _
  | .headToSending | .deadlineExpiry _ | .startTickReached _ | .channelEnd _ | .startBit
  | .arbitrationWon => none

end Sys2Proof
end

