-- ==== Sys2Proof/Machine/Operands.lean ====
section
/-!
DEFINITION. The formats (11_formats.md): the cells of a frame on LINK with its CRC, the parameter
digest, the fields of the configuration image, the codes, and the layouts of the responses.
-/

namespace Sys2Proof.Machine

/-! ### Bits -/

/-- The bits of a word, most significant first (R42, R182). -/
def bitsOf {w : Nat} (v : BitVec w) : List Bool := (List.range w).map v.getMsbD

/-- The number that a list of bits spells, most significant first. -/
def ofBits (l : List Bool) : Nat := l.foldl (fun n b => 2 * n + b.toNat) 0

/-- `len` cells of a frame, from cell number `start` on, as a number (R182). -/
def field (cells : List Cell) (start len : Nat) : Nat := ofBits ((cells.drop start).take len)

/-- The bytes of a 16-bit value, most significant first (R163). -/
def bytes2 (v : BitVec 16) : List Byte := [v.extractLsb' 8 8, v.extractLsb' 0 8]

/-- One byte of flags: bit 0 is the first (11_formats.md, "Bits within a byte"). -/
def flagsByte (l : List Bool) : Byte := BitVec.ofNat 8 (ofBits l.reverse)

/-! ### Check values (R183, R184) -/

/-- One step of either check register: compare the data bit with the top bit, shift, and invert at the
polynomial's places when they differed (R183). -/
def crcStep {w : Nat} (poly reg : BitVec w) (bit : Bool) : BitVec w :=
  if reg.msb != bit then (reg <<< 1) ^^^ poly else reg <<< 1

/-- The CRC of a frame over its covered cells: from 65,535, inverting bits 12, 5 and 0 (R183). -/
def crc16 (cells : List Cell) : BitVec 16 := cells.foldl (crcStep 0x1021#16) 0xFFFF#16

/-- The 8-bit register of R184 over bits: from 0, inverting bits 2, 1 and 0. -/
def crc8 (bits : List Bool) : Byte := bits.foldl (crcStep 0x07#8) 0#8

/-! ### The configuration image (R185) -/

/-- Byte `i` of the image. -/
def imageByte (img : Image) (i : Nat) : Byte := img.toList.getD i 0#8

/-- The two-byte number at byte `i`. -/
def imageWord (img : Image) (i : Nat) : Nat := (imageByte img i ++ imageByte img (i + 1)).toNat

/-- The image of an unconfigured station reads as 47 bytes of 0 (R173). -/
def blankImage : Image := Vector.replicate 47 0#8

/-- The seven network parameters (R4). -/
structure Params where
  W      : Nat
  B      : Nat
  sShort : Nat
  sLong  : Nat
  H      : Nat
  G      : Nat
  dMax   : Nat
  deriving DecidableEq, Repr

/-- The network parameters where the image stores them (R185). -/
def imageParams (img : Image) : Params :=
  { W := imageWord img 0, B := (imageByte img 2).toNat, sShort := imageWord img 3,
    sLong := imageWord img 5, H := imageWord img 7, G := (imageByte img 9).toNat,
    dMax := imageWord img 10 }

/-- A class entry (R6, R185): bit 7 of its first byte enables it, the other bits are the channel. -/
structure ClassEntry where
  enabled  : Bool
  channel  : Nat
  weight   : Byte
  duration : Nat
  deriving DecidableEq, Repr

/-- The entry of class `c`: bytes 15 + 4c to 18 + 4c (R185). -/
def imageClass (img : Image) (c : ClassNo) : ClassEntry :=
  let i := 15 + 4 * c.toNat
  { enabled := (imageByte img i).msb, channel := ((imageByte img i).extractLsb' 0 7).toNat,
    weight := imageByte img (i + 1), duration := imageWord img (i + 2) }

/-- The parameter digest: over the first twelve bytes of the image, as stored (R184). -/
def imageDigest (img : Image) : Byte :=
  crc8 (((List.range 12).map (fun i => bitsOf (imageByte img i))).flatten)

/-! ### Frames on LINK (R182) -/

/-- The kind of a frame (R59). -/
def Frame.kind (f : Frame) : FrameKind :=
  match f.payload with
  | .cancel _ => .cancel
  | .claim _ _ _ _ => .claim
  | .join _ => .join

/-- The two kind bits (R59). -/
def FrameKind.bits : FrameKind → List Cell
  | .cancel => [false, false]
  | .claim  => [false, true]
  | .join   => [true, false]

/-- The cells of the payload in order of sending; a JOIN's fill is two recessive cells (R59). -/
def Payload.cells : Payload → List Cell
  | .cancel target => bitsOf target
  | .claim cls group weight offset => bitsOf cls ++ bitsOf group ++ bitsOf weight ++ bitsOf offset
  | .join group => bitsOf group ++ [true, true]

/-- The cells the CRC covers: the first kind bit through the last payload bit (R58). -/
def Frame.covered (f : Frame) : List Cell :=
  f.kind.bits ++ bitsOf f.id ++ bitsOf f.seq ++ bitsOf f.digest ++ f.payload.cells

/-- All cells of a frame: start bit, covered cells, CRC, end delimiter (R58, R182). -/
def Frame.cells (f : Frame) : List Cell :=
  [false] ++ f.covered ++ bitsOf (crc16 f.covered) ++ [true, true]

/-- The number of payload bits (R59). -/
def FrameKind.payloadBits : FrameKind → Nat
  | .cancel => 12
  | .claim  => 29
  | .join   => 4

/-- The number of cells before the CRC field: start bit, header and payload (R59). -/
def FrameKind.crcAt (k : FrameKind) : Nat := 28 + k.payloadBits

/-- The frame length in bit cells (R59). -/
def FrameKind.length (k : FrameKind) : Nat := k.crcAt + 18

/-- The kind that cells 1 and 2 spell; 11 is no kind (R59, R60). -/
def kindOf (cells : List Cell) : Option FrameKind :=
  match field cells 1 2 with
  | 0 => some .cancel
  | 1 => some .claim
  | 2 => some .join
  | _ => none

/-- The payload that the cells of a frame of kind `k` spell (R182). -/
def payloadOf (k : FrameKind) (cells : List Cell) : Payload :=
  match k with
  | .cancel => .cancel (BitVec.ofNat 12 (field cells 28 12))
  | .claim => .claim (BitVec.ofNat 3 (field cells 28 3)) (BitVec.ofNat 2 (field cells 31 2))
      (BitVec.ofNat 8 (field cells 33 8)) (BitVec.ofNat 16 (field cells 41 16))
  | .join => .join (BitVec.ofNat 2 (field cells 28 2))

/-- The frame that the cells of a frame of kind `k` spell (R182). -/
def frameOf (k : FrameKind) (cells : List Cell) : Frame :=
  { id := BitVec.ofNat 5 (field cells 3 5), seq := BitVec.ofNat 12 (field cells 8 12),
    digest := BitVec.ofNat 8 (field cells 20 8), payload := payloadOf k cells }

/-- The header a frame-class detection hands (R62). -/
def headerOf (k : FrameKind) (cells : List Cell) (verified : Bool) : Header :=
  { sender := BitVec.ofNat 5 (field cells 3 5), kind := k,
    seq := BitVec.ofNat 12 (field cells 8 12), verified := verified }

/-- A detection with a header and nothing else. -/
def Detection.plain (kind : DetectionKind) (header : Option Header) : Detection :=
  { kind := kind, header := header, expected := none, claim := none, target := none }

/-- What the Frame Checker makes of the cells decoded so far. -/
inductive CellCheck where
  | incomplete
  | failed (d : Detection)
  | complete (f : Frame)
  deriving DecidableEq, Repr

/-- Cell `i` has arrived and is dominant. -/
def dominantAt (cells : List Cell) (i : Nat) : Bool := cells[i]? == some false

/-- Stages 3 and 4 of a frame of kind `k`: the CRC at the end of its field, then each end-delimiter
cell as it arrives (R61). -/
def checkTail (k : FrameKind) (cells : List Cell) : CellCheck :=
  if cells.length < k.crcAt + 16 then .incomplete
  else if field cells k.crcAt 16 ≠ (crc16 ((cells.take k.crcAt).drop 1)).toNat then
    .failed (.plain .crc (some (headerOf k cells false)))
  else if dominantAt cells (k.crcAt + 16) || dominantAt cells (k.crcAt + 17) then
    .failed (.plain .framing (some (headerOf k cells true)))
  else if cells.length < k.length then .incomplete
  else .complete (frameOf k cells)

/-- Stages 1 to 4 over the cells decoded so far, in their order: the kind at its second cell, a JOIN's
fill as it arrives, then the CRC and the end delimiter (R60, R61, R62). -/
def checkCells (cells : List Cell) : CellCheck :=
  if cells.length < 3 then .incomplete
  else match kindOf cells with
    | none => .failed (.plain .framing none)
    | some .join =>
      if dominantAt cells 30 || dominantAt cells 31 then
        .failed (.plain .framing (some (headerOf .join cells false)))
      else checkTail .join cells
    | some k => checkTail k cells

/-! ### Codes on the local port (11.4, R166) -/

/-- Station state codes. -/
def StationState.code : StationState → Byte
  | .offline => 0 | .listening => 1 | .active => 2 | .quiesce => 3 | .silent => 4 | .configFault => 5

/-- Frame kind codes. -/
def FrameKind.code : FrameKind → Byte
  | .cancel => 0 | .claim => 1 | .join => 2

/-- Record state codes. -/
def RecordState.code : RecordState → Byte
  | .pending => 0 | .confirmed => 1

/-- Request state codes. -/
def RequestState.code : RequestState → Byte
  | .waiting => 0 | .sending => 1 | .pending => 2 | .granted => 3 | .firing => 4 | .cancelling => 5

/-- Outcome codes. -/
def ResultOutcome.code : ResultOutcome → Byte
  | .done => 1 | .aborted => 2 | .cancelled => 3 | .denied => 4 | .voided => 5

/-- Reason codes. -/
def Reason.code : Reason → Byte
  | .none => 0 | .deadline => 1 | .horizon => 2 | .attempts => 3 | .silent => 4 | .leave => 5
  | .fault => 6

/-- Detection kind codes. -/
def DetectionKind.code : DetectionKind → Byte
  | .crc => 1 | .framing => 2 | .readback => 3 | .sequenceGap => 4 | .groupMismatch => 5
  | .checkFail => 6 | .claimRange => 7 | .unknownTarget => 8 | .outOfTurn => 9 | .identity => 10

/-- Status codes (R166). -/
def Status.code : Status → Byte
  | .ok => 0 | .busy => 1 | .notActive => 2 | .wrongState => 3 | .badParam => 4 | .badConfig => 5
  | .unknownTag => 6 | .tooLate => 7 | .empty => 8 | .idle => 9

/-! ### Response layouts (11.5) -/

/-- A small count or code as one byte. -/
def byteOf (n : Nat) : Byte := BitVec.ofNat 8 n

/-- A field narrower than a byte, in a whole byte. -/
def byteOfField {w : Nat} (v : BitVec w) : Byte := v.setWidth 8

/-- A sequence number in two bytes. -/
def seqBytes (v : Seq) : List Byte := bytes2 (v.setWidth 16)

/-- The result entry: 8 bytes. -/
def ResultEntry.bytes (r : ResultEntry) : List Byte :=
  [r.tag, r.outcome.code, r.reason.code] ++ tickBytes (r.start.getD 0) ++ [byteOf r.attempts]

/-- The error record and the overrun count: 21 bytes (R180). -/
def errorBytes (record : Option ErrorEntry) (overrun : Nat) : List Byte :=
  match record with
  | none => List.replicate 20 0#8 ++ [byteOf overrun]
  | some e =>
    let d := e.detection
    let h := d.header.getD ⟨0, .cancel, 0, false⟩
    let c := d.claim.getD ⟨0, 0, 0, 0⟩
    [flagsByte [true, d.header.isSome, h.verified, d.expected.isSome, d.claim.isSome,
        d.target.isSome], d.kind.code]
      ++ tickBytes e.tick ++ [e.station.code, byteOfField h.sender, h.kind.code] ++ seqBytes h.seq
      ++ seqBytes (d.expected.getD 0) ++ [byteOfField c.cls, byteOfField c.group, c.weight]
      ++ bytes2 c.offset ++ seqBytes (d.target.getD 0) ++ [byteOf overrun]

/-- The claim record: 16 bytes (R181). -/
def ClaimRecord.bytes (r : ClaimRecord) : List Byte :=
  [byteOfField r.owner] ++ seqBytes r.seq ++ [byteOfField r.cls, byteOfField r.group, r.weight]
    ++ tickBytes r.start ++ tickBytes r.received ++ [r.state.code, r.tag.getD 0]

/-- The roster entry: 8 bytes (R181). -/
def RosterEntry.bytes (e : RosterEntry) : List Byte :=
  [flagsByte [e.present, e.group.isSome, e.expectation.isSome, e.lastHeard.isSome],
    byteOfField (e.group.getD 0)] ++ seqBytes (e.expectation.getD 0) ++ tickBytes (e.lastHeard.getD 0)

/-- QUERY's response: 7 bytes (R177). -/
def Request.bytes (r : Request) : List Byte :=
  [r.state.code, byteOf r.attempts, flagsByte [r.start.isSome, r.mark]] ++ tickBytes (r.start.getD 0)

/-- The five counters: 10 bytes (R180). -/
def Counters.bytes (c : Counters) : List Byte :=
  bytes2 (BitVec.ofNat 16 c.good) ++ bytes2 (BitVec.ofNat 16 c.short)
    ++ bytes2 (BitVec.ofNat 16 c.long) ++ bytes2 (BitVec.ofNat 16 c.own)
    ++ bytes2 (BitVec.ofNat 16 c.foreign)

/-- READ EVENTS' byte (R179). -/
def EventFlags.byte (f : EventFlags) : Byte :=
  flagsByte [f.state, f.detect, f.recovery, f.foreign, f.busFault]

/-- READ CONFIG's response: 49 bytes (R173). -/
def configBytes (image : Option Image) (digest : Option Byte) : List Byte :=
  [flagsByte [image.isSome, digest.isSome]] ++ (image.getD blankImage).toList ++ [digest.getD 0]

end Sys2Proof.Machine
end

