-- ==== Sys2Proof/Machine/Ops.lean ====
section
/-!
DEFINITION. The operations that the commands share: ticks, the derived quantities, the station state,
the roster, the claim table, the request list with the departure of requests, the local port's answer,
and the exits from the working states.
-/

namespace Sys2Proof.Machine

/-- What a command answers. -/
abbrev Out := Host.Outcome State Fault Refusal

/-! ### Ticks (R2) -/

/-- The signed difference from `u` to `t`, in the range -2^31 to 2^31 - 1 (R2). -/
def tickDiff (t u : Tick) : Int := (t - u).toInt

/-- `t` is later than `u` (R2). -/
def later (t u : Tick) : Bool := decide (0 < tickDiff t u)

/-- `t` is earlier than `u` (R2). -/
def earlier (t u : Tick) : Bool := decide (tickDiff t u < 0)

/-- Tick `t` is reached: the difference from `t` to now is zero or positive (R2). -/
def reached (t now : Tick) : Bool := decide (0 ≤ tickDiff now t)

/-- The distance between two ticks (R2). -/
def distance (t u : Tick) : Nat := (tickDiff t u).natAbs

/-- `n` ticks after `t`. -/
def plus (t : Tick) (n : Nat) : Tick := t + BitVec.ofNat 32 n

/-! ### Configuration in force and derived quantities (R5) -/

/-- The configuration image, blank when unconfigured (R173). -/
def State.image (s : State) : Image := s.port.image.getD blankImage

/-- The network parameters in force (R4). -/
def State.params (s : State) : Params := imageParams s.image

/-- The station id, byte 12 (R185). -/
def State.ownId (s : State) : StationId := (imageByte s.image 12).setWidth 5

/-- The rail group, byte 13 (R185). -/
def State.ownGroup (s : State) : Group := (imageByte s.image 13).setWidth 2

/-- The tolerance mode, byte 14: 0 LATCHED, 1 PERSISTENT (R185). -/
def State.tolerance (s : State) : Tolerance :=
  if imageByte s.image 14 = 0#8 then .latched else .persistent

/-- This station's class table (R6). -/
def State.classOf (s : State) (c : ClassNo) : ClassEntry := imageClass s.image c

/-- Pending span, H + G (R5). -/
def Params.pendingSpan (p : Params) : Nat := p.H + p.G

/-- Minimum lead, H + 2G (R5). -/
def Params.minLead (p : Params) : Nat := p.H + 2 * p.G

/-- The retire point lies W + 2G after the start tick (R5). -/
def Params.retireSpan (p : Params) : Nat := p.W + 2 * p.G

/-- Join interval J = Dmax + W + 3G (R5). -/
def Params.joinInterval (p : Params) : Nat := p.dMax + p.W + 3 * p.G

/-- Short quiesce 16 + 2G (R5). -/
def Params.qShort (p : Params) : Nat := 16 + 2 * p.G

/-- Long quiesce W + 3G (R5). -/
def Params.qLong (p : Params) : Nat := p.W + 3 * p.G

/-- One class entry passes JOIN's validation; a class not enabled is not examined (R7). -/
def validClass (b : Nat) (c : ClassEntry) : Bool :=
  !c.enabled || (c.channel ≤ 3 && 1 ≤ c.weight.toNat && c.weight.toNat ≤ b && 1 ≤ c.duration)

/-- The eight classes. -/
def allClasses : List ClassNo := [0, 1, 2, 3, 4, 5, 6, 7]

/-- JOIN's validation of an image: every condition of R7 but that the image is configured. -/
def validImage (img : Image) : Bool :=
  let p := imageParams img
  100 ≤ p.W && 1 ≤ p.B && (1 ≤ p.sShort && p.sShort ≤ 4095)
    && (p.sShort ≤ p.sLong && p.sLong ≤ 16383) && p.sLong ≤ p.W
    && (16 ≤ p.H && p.H ≤ 4095) && (1 ≤ p.G && p.G ≤ 63) && p.minLead ≤ p.dMax
    && imageByte img 12 ≤ 31#8 && imageByte img 13 ≤ 3#8 && imageByte img 14 ≤ 1#8
    && allClasses.all (fun c => validClass p.B (imageClass img c))
    && allClasses.any (fun c => (imageClass img c).enabled)

/-! ### Station state (R78, R79) -/

/-- The states in which the station decodes LINK and observes STOP_N (R79). -/
def StationState.receiving : StationState → Bool
  | .listening | .active | .quiesce => true
  | .offline | .silent | .configFault => false

/-- The station state a remembered state names (R78). -/
def Working.toState : Working → StationState
  | .listening => .listening
  | .active => .active

/-- A change of station state; it sets the STATE flag (R78, R125). -/
def State.enter (s : State) (st : StationState) : State :=
  { s with ctrl := { s.ctrl with station := st } }.setFlag .state

/-! ### Local port (R163) -/

/-- The response still presents a result entry (R170). -/
def Transaction.presents : Transaction → Bool
  | .answered _ _ _ fetching => fetching
  | .idle | .receiving | .discarded => false

/-- How many ticks after a taking the status is ready: 1 or 2, since a byte that is clocked without a pause
after the last parameter byte reads the filler (R163). Which of the two is a free value (log 14). -/
def LocalPort.statusWait (p : LocalPort) : Nat := max 1 (min 2 (Config.statusDelay p.takings))

/-- A command is taken, in a transaction of its own: its status and response are fixed at the taking, and
the status is ready within 2 ticks of it (R163). A fetch that was still presenting its entry can end at
this same instant, unless the command is itself a fetch (R171). -/
def LocalPort.reply (p : LocalPort) (st : Status) (response : List Byte) (fetching : Bool) : LocalPort :=
  { p with transaction := .answered p.statusWait st response fetching
           fetchEnding := !fetching && (p.fetchEnding || p.transaction.presents)
           takings := p.takings + 1 }

/-- A command is answered, and presents no result entry (R163). -/
def State.answer (s : State) (st : Status) (response : List Byte) : State :=
  { s with port := s.port.reply st response false }

/-- The port takes a command: RESET_N is high, and no transaction is being discarded (R81, R167). -/
def State.takes (s : State) : Bool := !s.resetHeld && decide (s.port.transaction ≠ .discarded)

/-- A command of the local port has its effect where the port takes it (R167). -/
def onPort (f : State → State) (s : State) : Out := .next (if s.takes then f s else s)

/-- An event command has its effect where its condition holds; where it does not hold, the event has
not happened and nothing changes (log 2). -/
def onEvent (due : State → Bool) (f : State → State) (s : State) : Out :=
  .next (if due s then f s else s)

/-! ### Vectors -/

/-- A function applied to every entry. -/
def mapEntries {α β : Type} {n : Nat} (f : α → β) (v : Vector α n) : Vector β n :=
  ⟨(v.toList.map f).toArray, by simp⟩

/-! ### Roster (R66) -/

/-- The entry of a station id. -/
def State.entry (s : State) (id : StationId) : RosterEntry := s.roster[id.toNat]'id.isLt

/-- Writes the entry of a station id. -/
def State.setEntry (s : State) (id : StationId) (e : RosterEntry) : State :=
  { s with roster := s.roster.set id.toNat e id.isLt }

/-- Every expectation UNSYNCHRONISED; present, group and last-heard tick kept (R74, R75). -/
def unsyncRoster (r : Vector RosterEntry 32) : Vector RosterEntry 32 :=
  mapEntries (fun e => { e with expectation := none }) r

/-- Every entry cleared (R66, R75). -/
def clearedRoster : Vector RosterEntry 32 := Vector.replicate 32 RosterEntry.cleared

/-! ### Claim table (R19, R20) -/

/-- The record of this owner and claim sequence. -/
def isRecord (owner : StationId) (seq : Seq) (r : ClaimRecord) : Bool :=
  r.owner == owner && r.seq == seq

/-- Places a record after every record whose start tick is earlier and before the first whose start
tick is later (R20). -/
def insertRecord (x : ClaimRecord) : List ClaimRecord → List ClaimRecord
  | [] => [x]
  | y :: rest => if later y.start x.start then x :: y :: rest else y :: insertRecord x rest

/-- The tick at which a record's hold expires (R28). -/
def holdEnd (p : Params) (r : ClaimRecord) : Tick := plus r.received p.pendingSpan

/-- The retire point of a record (R29). -/
def retirePoint (p : Params) (r : ClaimRecord) : Tick := plus r.start p.retireSpan

/-- The record is this station's own and carries a request tag: the tag (R33). -/
def ownTag (own : StationId) (r : ClaimRecord) : Option Byte := if r.owner = own then r.tag else none

/-- The tags of own records among those that one event removes, in start order (R30, R31). -/
def voidedTags (own : StationId) (removed : List ClaimRecord) : List Byte :=
  removed.filterMap (ownTag own)

/-- Detaches the records of departing requests: their request tag becomes absent (R34). -/
def detach (own : StationId) (tags : List Byte) (table : List ClaimRecord) : List ClaimRecord :=
  table.map (fun r => match ownTag own r with
    | some g => if tags.contains g then { r with tag := none } else r
    | none => r)

/-! ### Request list (R127, R128, R131) -/

/-- The listed request with a tag. -/
def State.request (s : State) (tag : Byte) : Option Request := s.req.list.find? (fun r => r.tag == tag)

/-- Changes the listed request with a tag in its place. -/
def State.updateRequest (s : State) (tag : Byte) (f : Request → Request) : State :=
  { s with req := { s.req with list := s.req.list.map (fun r => if r.tag = tag then f r else r) } }

/-- A result entry from a request: the start tick goes with DONE and ABORTED only (R131). -/
def Request.result (r : Request) (o : ResultOutcome) (why : Reason) : ResultEntry :=
  { tag := r.tag, outcome := o, reason := why,
    start := match o with
      | .done | .aborted => r.start
      | .cancelled | .denied | .voided => none
    attempts := r.attempts }

/-- What one event makes of a listed request: it stays in its place (changed or not), it returns to
WAITING at the front (R128), or it leaves with a result (R131). -/
inductive Disposition where
  | stay (r : Request)
  | front (r : Request)
  | leave (o : ResultOutcome) (why : Reason)
  deriving DecidableEq, Repr

/-- The result of a request that leaves. -/
def departure (d : Request → Disposition) (r : Request) : Option ResultEntry :=
  match d r with
  | .leave o why => some (r.result o why)
  | .stay _ | .front _ => none

/-- A request that stays in its place. -/
def stays (d : Request → Disposition) (r : Request) : Option Request :=
  match d r with
  | .stay r' => some r'
  | .front _ | .leave _ _ => none

/-- A request that goes to the front. -/
def fronts (d : Request → Disposition) (r : Request) : Option Request :=
  match d r with
  | .front r' => some r'
  | .stay _ | .leave _ _ => none

/-- Puts a request before the first whose key is larger. -/
def insertByKey (key : Request → Nat) (x : Request) : List Request → List Request
  | [] => [x]
  | y :: rest => if key x < key y then x :: y :: rest else y :: insertByKey key x rest

/-- Requests in ascending order of a key; equal keys keep their order. -/
def orderByKey (key : Request → Nat) (l : List Request) : List Request :=
  l.foldl (fun acc r => insertByKey key r acc) []

/-- The place of a tag among the tags of the voided records, which stand in start order (R128). -/
def placeOf (tags : List Byte) (r : Request) : Nat := tags.idxOf r.tag

/-- One event answered at every listed request. Departing requests post their results in list order and
their records are detached (R131, R34). Those sent to the front take the front places in the start
order of their voided records (R128). A frame stays in its outgoing slot only while its request stays
(R138, R142, R143, R144, R145). -/
def State.settle (s : State) (tags : List Byte) (d : Request → Disposition) : State :=
  let results := s.req.list.filterMap (departure d)
  let kept := s.req.list.filterMap (stays d)
  let gone := results.map ResultEntry.tag
  let returned := s.req.list.filterMap (fronts d)
  { s with
    table := detach s.ownId gone s.table
    req := { s.req with
      list := orderByKey (placeOf tags) returned ++ kept
      claimSlot := s.req.claimSlot.filter (fun g =>
        !gone.contains g && !returned.any (fun r => r.tag == g))
      cancelSlots := s.req.cancelSlots.filter (fun c => !gone.contains c.tag) }
    port := { s.port with results := s.port.results ++ results } }

/-- The request with a tag leaves the list with a result; the others stay (R131). -/
def State.leaveRequest (s : State) (tag : Byte) (o : ResultOutcome) (why : Reason) : State :=
  s.settle [] (fun r => if r.tag = tag then .leave o why else .stay r)

/-- A request back in WAITING with its start tick absent (R137, R138). -/
def Request.backToWaiting (r : Request) : Request := { r with state := .waiting, start := none }

/-- A claim that no record stands for any more: back to WAITING at the front, or VOIDED with ATTEMPTS
at the third attempt (R137). -/
def Request.voided (r : Request) : Disposition :=
  if r.attempts < 3 then .front r.backToWaiting else .leave .voided .attempts

/-- A Voided report at the request it concerns (R137, R144). -/
def Request.onVoided (r : Request) : Disposition :=
  match r.state with
  | .pending | .granted => r.voided
  | .cancelling => .leave .cancelled .none
  | .waiting | .sending | .firing => .stay r

/-- The head: the first WAITING request in list order (R128). -/
def State.head (s : State) : Option Request := s.req.list.find? (fun r => r.state == .waiting)

/-- A request in negotiation: SENDING or PENDING (R132). -/
def Request.negotiating (r : Request) : Bool := r.state == .sending || r.state == .pending

/-! ### The own frame on LINK -/

/-- The frame on LINK that this station sends, with its slot. -/
def Transmit.frame : Transmit → Option Sending
  | .quiet => none
  | .arbitrating x => some x
  | .sending x => some x

/-- The frame from this slot is on the bus (R142). -/
def State.onBus (s : State) (slot : SlotRef) : Bool :=
  match s.bus.transmit.frame with
  | some x => x.slot == slot
  | none => false

/-- The station drives LINK: the level of the present cell of its own frame, recessive otherwise. The
number of cells decoded is the number of cells sent (R42, R44). -/
def BusInterface.driver (b : BusInterface) : Cell :=
  match b.transmit.frame, b.receive with
  | some x, .inFrame cells => x.frame.cells.getD cells.length true
  | _, _ => true

/-! ### STOP_N -/

/-- The station pulls STOP_N at this tick: from the drive start up to but not including the drive end
(R98), whether the events of either tick were taken yet or not (log 7). -/
def State.ownLow (s : State) : Bool :=
  match s.stop.drive with
  | .released => false
  | .driving _ start finish _ => reached start s.now && !reached finish s.now

/-- The level of STOP_N sampled at this tick is low: wired-OR of all drivers (R101, R109). -/
def State.stopLow (s : State) : Bool := s.ownLow || s.stop.peersLow

/-- The STOP_N driver pin: it pulls the line from DRIVE_START to DRIVE_END (R98). Where a tick passes, it
pulls exactly where `State.ownLow` does (log 7). -/
def State.stopDriver (s : State) : Bool :=
  match s.stop.drive with
  | .released => false
  | .driving _ _ _ pulling => pulling

/-- Observation stops: the line reads HIGH, the fall tick and the quiesce end are absent and the
classification is NONE (R102). The drive goes on (R95, R100). -/
def StopMonitor.unobserved (m : StopMonitor) : StopMonitor :=
  { m with lineLow := false, fallTick := none, classification := .none, quiesceEnd := none,
           busFaultRaised := false, lineTaken := false }

/-! ### Output Unit (R153) -/

/-- The entry of a channel. -/
def State.channel (s : State) (c : Channel) : Option ChannelEntry := s.out[c.toNat]'c.isLt

/-- Makes a channel idle or busy. -/
def State.setChannel (s : State) (c : Channel) (e : Option ChannelEntry) : State :=
  { s with out := s.out.set c.toNat e c.isLt }

/-- The pin OUTn is high while channel n is busy (R153). Its level at a tick is the one it has when the tick
passes: between two pulses laid end to end whose end was taken first, the state inside that tick shows it
low, and the driver sees no low (R155, log 33). -/
def State.outPin (s : State) (c : Channel) : Bool := (s.channel c).isSome

/-- The channel of a class (R6); JOIN admits only channels 0 to 3. -/
def State.channelOf (s : State) (c : ClassNo) : Channel := BitVec.ofNat 2 (s.classOf c).channel

/-- The four channels idle. -/
def idleChannels : Vector (Option ChannelEntry) 4 := Vector.replicate 4 none

/-! ### Exits from the working states (R89, R90, R92; 08, 8.7) -/

/-- What LEAVE and CONFIG_FAULT make of a request: firing pulses are cut (R146, R148). -/
def Request.onExit (why : Reason) (r : Request) : Disposition :=
  match r.state with
  | .firing => .leave .aborted .none
  | .cancelling => .leave .cancelled .none
  | .waiting | .sending | .pending | .granted =>
    if r.mark then .leave .cancelled .none else .leave .voided why

/-- What the entry to SILENT makes of a request: a firing one stays listed (R147). -/
def Request.onSilent (r : Request) : Disposition :=
  match r.state with
  | .firing => .stay r
  | .cancelling => .leave .cancelled .none
  | .waiting | .sending | .pending | .granted =>
    if r.mark then .leave .cancelled .none else .leave .voided .silent

/-- What every exit does on the bus side: LINK released and the own frame abandoned, synchronisation and
DEFER cleared (R45, R53, R57), observation of STOP_N stopped (R102), the join and recovery items
cleared (R78), the claim table emptied (R32), every outgoing slot emptied (8.7). -/
def State.offBus (s : State) : State :=
  { s with
    ctrl := { s.ctrl with joinEnd := none, remembered := none, joinOwed := false, moveWaits := false }
    bus := { s.bus with receive := .unsynchronised 0, transmit := .quiet, defer := false }
    table := []
    stop := s.stop.unobserved
    req := { s.req with claimSlot := none, cancelSlots := [], joinSlot := false } }

/-- LEAVE's effect (R89, R146, R162): the digest is no longer held, an IDENTITY that waits for its drive
start no longer leads to CONFIG_FAULT (R100, R148). -/
def State.enterOffline (s : State) : State :=
  let s := ((s.settle [] (Request.onExit .leave)).offBus).enter .offline
  { s with roster := clearedRoster, out := idleChannels,
           ctrl := { s.ctrl with identityOwed := false },
           port := { s.port with digest := none } }

/-- The entry to CONFIG_FAULT (R92, R93, R148, R162). -/
def State.enterConfigFault (s : State) : State :=
  let s := ((s.settle [] (Request.onExit .fault)).offBus).enter .configFault
  { s with roster := clearedRoster, out := idleChannels,
           ctrl := { s.ctrl with identityOwed := false } }

/-- The entry to SILENT (R90, R147, R161). -/
def State.enterSilent (s : State) : State :=
  let s := ((s.settle [] Request.onSilent).offBus).enter .silent
  { s with roster := unsyncRoster s.roster }

/-- The entry to ACTIVE (R84): the join-interval end absent, the JOIN withdrawn and no longer owed. -/
def State.enterActive (s : State) : State :=
  let s := s.enter .active
  { s with ctrl := { s.ctrl with joinEnd := none, joinOwed := false, moveWaits := false },
           req := { s.req with joinSlot := false } }

/-- Places an owed JOIN in its empty slot in LISTENING with synchronisation (R83). -/
def State.placeJoin (s : State) : State :=
  match s.ctrl.station, s.bus.receive with
  | .listening, .outOfFrame _ | .listening, .inFrame _ =>
    if s.ctrl.joinOwed then { s with req := { s.req with joinSlot := true } } else s
  | _, _ => s

/-- The move to ACTIVE that waited for the own JOIN frame is taken once that frame has left the bus
(R84). -/
def State.takeWaitingMove (s : State) : State :=
  if s.ctrl.moveWaits && s.ctrl.station == .listening then s.enterActive else s

end Sys2Proof.Machine
end

