-- ==== Sys2Proof/Machine/Admission.lean ====
section
/-!
DEFINITION. The Admission Checker: the admission check with a margin (R9 to R13), and the earliest
admissible start the builder computes (R15 to R17).
-/

namespace Sys2Proof.Machine

/-- The outcomes of the admission check (R13). -/
inductive Check where
  | pass | range | fit
  deriving DecidableEq, Repr

/-- Where the check finds the claim: its start tick, weight, group and offset (R9). -/
structure Claim where
  start  : Tick
  weight : Nat
  group  : Group
  offset : Nat
  deriving DecidableEq, Repr

/-- The range test: offset from H + 2G to Dmax, weight from 1 to B (R9). -/
def inRange (p : Params) (c : Claim) : Bool :=
  p.minLead ≤ c.offset && c.offset ≤ p.dMax && 1 ≤ c.weight && c.weight ≤ p.B

/-- The capacity test: fewer than 48 records (R10). -/
def hasRoom (table : List ClaimRecord) : Bool := table.length < 48

/-- The distance a start in group `g` must keep from a record (R11). -/
def spacingBound (p : Params) (m : Nat) (g : Group) (x : ClaimRecord) : Nat :=
  if x.group = g then max (p.sShort + m) (p.sLong + m) else p.sShort + m

/-- Spacing against every record, whatever its state, owner or start (R11). -/
def spacingOk (p : Params) (m : Nat) (table : List ClaimRecord) (t : Tick) (g : Group) : Bool :=
  table.all (fun x => spacingBound p m g x ≤ distance t x.start)

/-- The record's start lies in the stretch of `len` ticks that begins `k` ticks before `t`: its start
minus `t` is at least -k and less than len - k (R12). -/
def inStretch (t : Tick) (k len : Nat) (x : ClaimRecord) : Bool :=
  decide (-(k : Int) ≤ tickDiff x.start t) && decide (tickDiff x.start t < (len : Int) - k)

/-- The summed weight of the records in that stretch (R12). -/
def stretchWeight (table : List ClaimRecord) (t : Tick) (k len : Nat) : Nat :=
  ((table.filter (inStretch t k len)).map (fun x => x.weight.toNat)).sum

/-- The stretches that R12 says suffice: those that begin at `t` itself and at the start tick of a
record that lies within len - 1 ticks before `t`, or at `t`. Each is given as its distance before `t`. -/
def stretchStarts (table : List ClaimRecord) (t : Tick) (len : Nat) : List Nat :=
  0 :: (table.filterMap (fun x =>
    let d := tickDiff t x.start
    if 0 ≤ d ∧ d < len then some d.toNat else none))

/-- The rolling budget with window length `len` (R12). -/
def budgetOk (p : Params) (len : Nat) (table : List ClaimRecord) (t : Tick) (w : Nat) : Bool :=
  (stretchStarts table t len).all (fun k => w + stretchWeight table t k len ≤ p.B)

/-- The admission check with margin `m` (R13). -/
def admissionCheck (p : Params) (m : Nat) (table : List ClaimRecord) (c : Claim) : Check :=
  if !inRange p c then .range
  else if hasRoom table && spacingOk p m table c.start c.group
      && budgetOk p (p.W + m) table c.start c.weight then .pass
  else .fit

/-! ### The builder's own conditions -/

/-- The stretch of `dur` ticks from `t` overlaps the stretch of `len` ticks from `u`: neither is empty, and
some tick lies in both. -/
def overlaps (t : Tick) (dur : Nat) (u : Tick) (len : Nat) : Bool :=
  decide (0 < dur) && decide (0 < len) && decide (tickDiff u t < dur) && decide (-(len : Int) < tickDiff u t)

/-- The channel condition for a start `t` of class `cls` (R15). -/
def channelOk (s : State) (cls : ClassNo) (t : Tick) : Bool :=
  let dur := (s.classOf cls).duration
  let ch := s.channelOf cls
  s.table.all (fun x => !(x.owner == s.ownId && s.channelOf x.cls == ch
      && overlaps t dur x.start (s.classOf x.cls).duration))
    && match s.channel ch with
      | none => true
      | some e => !overlaps t dur s.now (tickDiff e.endTick s.now).toNat

/-- The conditions on one tick of the window: R11 and R12 with margin 2G, and R15 (R17). -/
def startOk (s : State) (r : Request) (t : Tick) : Bool :=
  let p := s.params
  spacingOk p (2 * p.G) s.table t s.ownGroup
    && budgetOk p (p.W + 2 * p.G) s.table t (s.classOf r.cls).weight.toNat
    && channelOk s r.cls t

/-- The lower end of the request window, in ticks from now: the later of the not-before tick and F + H + 2G
(R16). A tick of the board controller is read against now, so one more than 2^31 - 1 ahead lies in the
past (R2, log 23). -/
def windowLow (s : State) (r : Request) (f : Tick) : Int :=
  max (tickDiff r.notBefore s.now) (tickDiff f s.now + s.params.minLead)

/-- F + Dmax, in ticks from now (R16). -/
def horizon (s : State) (f : Tick) : Int := tickDiff f s.now + s.params.dMax

/-- The upper end, in ticks from now: the earlier of the deadline and F + Dmax (R16). -/
def windowHigh (s : State) (r : Request) (f : Tick) : Int := min (tickDiff r.deadline s.now) (horizon s f)

/-- The binding limit: DEADLINE when the upper end is the deadline, also where it equals F + Dmax, HORIZON
when it is F + Dmax (R16). -/
def bindingLimit (s : State) (r : Request) (f : Tick) : Reason :=
  if tickDiff r.deadline s.now ≤ horizon s f then .deadline else .horizon

/-- The number of ticks in the window, both ends included; 0 when it is empty (R16). -/
def windowLength (low high : Int) : Nat := (high - low + 1).toNat

/-- The first of `n` ticks from `t` on that satisfies a condition. -/
def firstTick (ok : Tick → Bool) : Nat → Tick → Option Tick
  | 0, _ => none
  | n + 1, t => if ok t then some t else firstTick ok n (t + 1)

/-- The three values of R17. -/
inductive Earliest where
  | start (t : Tick)
  | none (limit : Reason)
  | full
  deriving DecidableEq, Repr

/-- The first tick of the request window that satisfies the conditions of R17. -/
def searchWindow (s : State) (r : Request) (f : Tick) : Option Tick :=
  let low := windowLow s r f
  firstTick (startOk s r) (windowLength low (windowHigh s r f)) (s.now + BitVec.ofInt 32 low)

/-- The earliest admissible start of a request for predicted frame end `f` (R17). A request whose deadline
was already over at its move to SENDING finds no start before it (R151, log 32). -/
def earliestStart (s : State) (r : Request) (f : Tick) : Earliest :=
  if !hasRoom s.table then .full
  else if r.overdue then .none .deadline
  else match searchWindow s r f with
    | some t => .start t
    | Option.none => .none (bindingLimit s r f)

end Sys2Proof.Machine
end

