-- ==== Sys2Proof/Machine/Detection.lean ====
section
/-!
DEFINITION. Taking an own detection: the Detection Log's four steps (R117) and the drive request at the
STOP Monitor (R97 to R100).
-/

namespace Sys2Proof.Machine

/-- The class of a detection kind (R97). -/
def DetectionKind.pulse : DetectionKind → PulseClass
  | .crc | .framing | .readback => .short
  | .sequenceGap | .groupMismatch | .identity | .checkFail | .claimRange | .unknownTarget
  | .outOfTurn => .long

/-- The length of a driven pulse: 24 or 96 ticks (R97). -/
def PulseClass.ticks : PulseClass → Nat
  | .short => 24
  | .long => 96

/-- A drive request taken in RELEASED: the drive starts two ticks after the detection (R98). -/
def freshDrive (c : PulseClass) (now : Tick) : Drive :=
  .driving c (plus now 2) (plus now (2 + c.ticks)) false

/-- A drive request (R98, R99). A drive whose end tick is reached is over, taken or not, so a request at
that very tick starts a fresh drive (R99). -/
def requestDrive (d : Drive) (c : PulseClass) (now : Tick) : Drive :=
  match d with
  | .released => freshDrive c now
  | .driving old start finish pulling =>
    if reached finish now then freshDrive c now
    else match old, c with
      | .short, .long => .driving .long start (plus start 96) pulling
      | _, _ => .driving old start finish pulling

/-- The STOP Monitor takes a drive request (R98, R99). -/
def State.requestPulse (s : State) (c : PulseClass) : State :=
  { s with stop := { s.stop with drive := requestDrive s.stop.drive c s.now } }

/-- Steps 1 to 3 of R117: fill the record or count an overrun, count the detection, set DETECT. -/
def State.recordDetection (s : State) (d : Detection) : State :=
  ({ s with log := { s.log with
      record := match s.log.record with
        | none => some ⟨d, s.now, s.ctrl.station⟩
        | some e => some e
      overrun := match s.log.record with
        | none => s.log.overrun
        | some _ => satSucc 255 s.log.overrun } }.count .own).setFlag .detect

/-- The start of the present drive is reached (R100). -/
def State.driveBegun (s : State) : Bool :=
  match s.stop.drive with
  | .released => false
  | .driving _ start _ _ => reached start s.now

/-- IDENTITY: a long drive in either mode, and CONFIG_FAULT at the drive start, or at once when the drive
it merges into has begun (R93, R100, R120). -/
def State.takeIdentity (s : State) : State :=
  let s := s.requestPulse .long
  if s.driveBegun then s.enterConfigFault
  else { s with ctrl := { s.ctrl with identityOwed := true } }

/-- The Detection Log takes an own detection: the four steps of R117 with the decision of R118, R119 and
R120. `full` is whether the record held an entry before. -/
def State.takeDetection (s : State) (d : Detection) : State :=
  let full := s.log.record.isSome
  let s := s.recordDetection d
  match d.kind, s.tolerance, full with
  | .identity, _, _ => s.takeIdentity
  | _, .latched, true => s.enterSilent
  | k, _, _ => s.requestPulse k.pulse

end Sys2Proof.Machine
end

