-- ==== Sys2Proof/Machine/Stages.lean ====
section
/-!
DEFINITION. What a frame does at its frame end: stage 5 at the Frame Checker (R63), stages 6 and 7 at
the Roster (R67 to R73), stage 8 at the Claim Table (R22 to R27), with the reports to the Request Unit.
-/

namespace Sys2Proof.Machine

/-! ### Reports to the Request Unit (R33) -/

/-- Inserted: the start tick of the request, now PENDING or CANCELLING, is set (R136, R143). -/
def State.reportInserted (s : State) (tag : Byte) (start : Tick) : State :=
  s.updateRequest tag (fun r =>
    if r.state = .pending ∨ r.state = .cancelling then { r with start := some start } else r)

/-- Refused, or a claim the roster stopped when the request is already cancelled (R137, R143). -/
def State.reportRefused (s : State) (tag : Byte) : State :=
  s.settle [] (fun r => if r.tag = tag then
    match r.state with
    | .pending => r.voided
    | .cancelling => .leave .cancelled .none
    | .waiting | .sending | .granted | .firing => .stay r
    else .stay r)

/-- The roster stopped the station's own claim: a marked request, now CANCELLING, leaves (R143); an
unmarked one stays PENDING without a start tick until the fall (R138). -/
def State.reportStopped (s : State) (tag : Byte) : State :=
  s.settle [] (fun r => if r.tag = tag ∧ r.state = .cancelling then .leave .cancelled .none else .stay r)

/-- Removed by cancel: a request still CANCELLING ends (R144). -/
def State.reportRemoved (s : State) (tag : Byte) : State :=
  s.settle [] (fun r => if r.tag = tag ∧ r.state = .cancelling then .leave .cancelled .none else .stay r)

/-- Confirmed: a PENDING request becomes GRANTED (R136). -/
def State.reportConfirmed (s : State) (tag : Byte) : State :=
  s.updateRequest tag (fun r => if r.state = .pending then { r with state := .granted } else r)

/-! ### Stage 8: the Claim Table -/

/-- The header of a frame whose CRC passed (R116). -/
def Frame.header (f : Frame) : Header :=
  { sender := f.id, kind := f.kind, seq := f.seq, verified := true }

/-- A detection about a claim, with the fields the frame carried (R23). -/
def claimDetection (k : DetectionKind) (f : Frame) (c : ClaimFields) : Detection :=
  { kind := k, header := some f.header, expected := none, claim := some c, target := none }

/-- The record a CLAIM frame makes at this station (R3, R19, R22). -/
def claimRecord (f : Frame) (c : ClaimFields) (frameEnd : Tick) (tag : Option Byte) : ClaimRecord :=
  { owner := f.id, seq := f.seq, cls := c.cls, group := c.group, weight := c.weight,
    start := plus frameEnd c.offset.toNat, received := frameEnd, state := .pending, tag := tag }

/-- Why the table refuses a claim, if it does: a record with its owner and sequence is present, or the
admission check with margin G fails (R22, R23). -/
def refusal (s : State) (f : Frame) (c : ClaimFields) : Option DetectionKind :=
  if s.table.any (isRecord f.id f.seq) then some .checkFail
  else match admissionCheck s.params s.params.G s.table
      ⟨plus s.now c.offset.toNat, c.weight.toNat, c.group, c.offset.toNat⟩ with
    | .pass => none
    | .range => some .claimRange
    | .fit => some .checkFail

/-- A good CLAIM at the table. `tag` is the request tag of an own claim (R22 to R25). -/
def State.takeClaim (s : State) (f : Frame) (c : ClaimFields) (tag : Option Byte) : State :=
  match s.ctrl.station with
  | .quiesce => s.takeDetection (.plain .outOfTurn (some f.header))
  | .listening | .active =>
    match refusal s f c with
    | none =>
      let x := claimRecord f c s.now tag
      let s := { s with table := insertRecord x s.table }
      match tag with
      | some g => s.reportInserted g x.start
      | none => s
    | some k =>
      let s := match tag with
        | some g => s.reportRefused g
        | none => s
      s.takeDetection (claimDetection k f c)
  | .offline | .silent | .configFault => s

/-- The detection of a CANCEL that names no record (R26). -/
def unknownTarget (f : Frame) (target : Seq) : Detection :=
  { kind := .unknownTarget, header := some f.header, expected := none, claim := none,
    target := some target }

/-- A good CANCEL at the table (R26, R27). -/
def State.takeCancel (s : State) (f : Frame) (target : Seq) : State :=
  match s.ctrl.station with
  | .listening | .active | .quiesce =>
    match s.table.find? (isRecord f.id target) with
    | some x =>
      let s' := { s with table := s.table.filter (fun r => !isRecord f.id target r) }
      match ownTag s.ownId x with
      | some g => s'.reportRemoved g
      | none => s'
    | none =>
      if s.ctrl.station = .listening then s else s.takeDetection (unknownTarget f target)
  | .offline | .silent | .configFault => s

/-! ### Stages 6 and 7: the Roster -/

/-- What stage 7 makes of a frame (R70 to R73): the entry afterwards, and the detection if it refuses. -/
def stage7 (e : RosterEntry) (f : Frame) (now : Tick) : RosterEntry × Option Detection :=
  let e := { e with present := true, lastHeard := some now }
  let next := some (f.seq + 1)
  match f.payload with
  | .join g => ({ e with group := some g, expectation := next }, none)
  | .cancel _ =>
    if e.expectation = none ∨ e.expectation = some f.seq then ({ e with expectation := next }, none)
    else (e, some ⟨.sequenceGap, some f.header, e.expectation, none, none⟩)
  | .claim _ g _ _ =>
    if e.expectation = none ∨ e.expectation = some f.seq then
      let e := { e with expectation := next }
      match e.group with
      | none => ({ e with group := some g }, none)
      | some known =>
        if known = g then (e, none) else (e, some (.plain .groupMismatch (some f.header)))
    else (e, some ⟨.sequenceGap, some f.header, e.expectation, none, none⟩)

/-- Stage 8 by kind: a JOIN has no table action (R64). -/
def State.stage8 (s : State) (f : Frame) (tag : Option Byte) : State :=
  match f.payload with
  | .claim cls group weight offset => s.takeClaim f ⟨cls, group, weight, offset⟩ tag
  | .cancel target => s.takeCancel f target
  | .join _ => s

/-- Stages 7 and 8 (R67, R68). When the roster stops an own claim, the Request Unit settles a cancelled
request before the Log takes the detection (R143, log 10). -/
def State.stage78 (s : State) (f : Frame) (tag : Option Byte) : State :=
  let (e, refused) := stage7 (s.entry f.id) f s.now
  let s := s.setEntry f.id e
  match refused with
  | none => s.stage8 f tag
  | some d =>
    let s := match tag with
      | some g => s.reportStopped g
      | none => s
    s.takeDetection d

/-- A good frame of a peer: counted, then stage 6, then stages 7 and 8 (R63, R64, R69). -/
def State.goodPeerFrame (s : State) (f : Frame) : State :=
  let s := s.count .good
  if f.id = s.ownId then s.takeDetection (.plain .identity (some f.header)) else s.stage78 f none

/-- A foreign frame: counted and flagged; in LISTENING the station enters CONFIG_FAULT (R63, R92). -/
def State.foreignFrame (s : State) : State :=
  let s := (s.count .foreign).setFlag .foreign
  if s.ctrl.station = .listening then s.enterConfigFault else s

/-- A received frame at its frame end: stage 5 onwards (R63, R64). -/
def State.takeReceived (s : State) (f : Frame) : State :=
  if s.port.digest = some f.digest then s.goodPeerFrame f else s.foreignFrame

/-- The station's own completed frame: good, passed by stage 6, then stages 7 and 8 (R65). -/
def State.takeOwn (s : State) (f : Frame) (tag : Option Byte) : State := (s.count .good).stage78 f tag

end Sys2Proof.Machine
end

