-- ==== Sys2Proof/Machine/LinkEvents.lean ====
section
/-!
DEFINITION. The events on LINK (03_frames_on_the_shared_bus.md), each with the condition under which it
is due and its effect where it is.
-/

namespace Sys2Proof.Machine

/-! ### Synchronisation and idle -/

/-- 24 recessive cells were counted in a receiving state with the flag clear (R45). -/
def syncDue (s : State) : Bool :=
  s.ctrl.station.receiving && match s.bus.receive with
    | .unsynchronised run => 24 ≤ run
    | .outOfFrame _ | .inFrame _ => false

/-- Synchronisation gained: OUT OF FRAME with idle count 24 (R45), DEFER cleared (R53), an owed JOIN
placed in LISTENING (R83). -/
def State.gainSync (s : State) : State :=
  ({ s with bus := { s.bus with receive := .outOfFrame 24, defer := false } }).placeJoin

/-- BUS_SYNC_GAINED (R45). -/
def execBusSyncGained (s : State) : Out := onEvent syncDue State.gainSync s

/-- The idle count stands at 24 or more (R53). -/
def Receive.longIdle : Receive → Bool
  | .outOfFrame idle => 24 ≤ idle
  | .unsynchronised _ | .inFrame _ => false

/-- The idle count stands at 24 or more and DEFER is still set (R53). -/
def idle24Due (s : State) : Bool := s.bus.defer && s.bus.receive.longIdle

/-- IDLE_COUNT_24 (R53). -/
def execIdleCount24 (s : State) : Out :=
  onEvent idle24Due (fun s => { s with bus := { s.bus with defer := false } }) s

/-- A dominant cell was observed while OUT OF FRAME (R46). -/
def startBitDue (s : State) : Bool :=
  match s.bus.receive with
  | .outOfFrame _ => !s.bus.lastCell
  | .unsynchronised _ | .inFrame _ => false

/-- START_BIT: the receive side enters IN FRAME with the dominant cell as the start bit, so an own frame
whose boundary has not come is not begun (R46, R48). -/
def execStartBit (s : State) : Out :=
  onEvent startBitDue (fun s => { s with bus := { s.bus with receive := .inFrame [false] } }) s

/-! ### Beginning a frame (R47 to R49) -/

/-- The slot whose frame may be offered at an idle count: CANCEL, then CLAIM, then JOIN (R47, R53). A CANCEL
frame placed at the start tick of its request is not offered: the start finds it in its slot (R150, log 34). -/
def offer (s : State) (idle : Nat) : Option SlotRef :=
  if idle < 8 then none
  else match s.ctrl.station, s.req.cancelSlots.find? (fun c => !c.late), s.req.claimSlot with
    | .active, some c, _ => some (.cancel c.tag)
    | .active, none, some g => if s.bus.defer && idle < 24 then none else some (.claim g)
    | .listening, _, _ => if s.req.joinSlot then some .join else none
    | _, _, _ => none

/-- The frame offered at this cell boundary, if one may begin (R47): OUT OF FRAME with no dominant cell
observed (R48), STOP_N observed high, no attempt made at this boundary yet (R49). -/
def offered (s : State) : Option SlotRef :=
  match s.bus.receive with
  | .outOfFrame idle =>
    if s.bus.lastCell && !s.bus.attempted && !s.stop.lineLow && !s.stopLow
        && s.bus.transmit.frame.isNone then offer s idle
    else none
  | .unsynchronised _ | .inFrame _ => none

/-- The attempt start comes (R47). -/
def attemptDue (s : State) : Bool := (offered s).isSome

/-- The frame this station sends with a payload: its id, its sequence number and its digest as they
stand at the attempt start (R49). -/
def State.frameWith (s : State) (p : Payload) : Frame :=
  { id := s.ownId, seq := s.bus.ownSeq, digest := s.port.digest.getD 0, payload := p }

/-- The frame begins: ARBITRATING, with the receive side IN FRAME (R44, R47). -/
def State.beginFrame (s : State) (slot : SlotRef) (p : Payload) : State :=
  { s with bus := { s.bus with transmit := .arbitrating ⟨s.frameWith p, slot⟩,
                               receive := .inFrame [] } }

/-- Whatever the attempt comes to, this cell boundary is used (R49, R133). -/
def State.useBoundary (s : State) : State := { s with bus := { s.bus with attempted := true } }

/-- At an idle count of 24 DEFER clears at the boundary at which the frame begins, also when the attempt is
taken before the IDLE_COUNT_24 of that boundary (R53). -/
def State.clearDeferAt24 (s : State) : State :=
  { s with bus := { s.bus with defer := s.bus.defer && !s.bus.receive.longIdle } }

/-- The predicted frame end of a CLAIM begun now (R49). -/
def State.predictedEnd (s : State) : Tick := plus s.now 75

/-- The payload of a claim built for a start tick (R49, R133). -/
def claimPayload (s : State) (r : Request) (t : Tick) : Payload :=
  .claim r.cls s.ownGroup (s.classOf r.cls).weight ((t - s.predictedEnd).setWidth 16)

/-- The attempt start of the claim in the CLAIM slot (R133). A slot whose request is no longer listed
is emptied (R134). -/
def State.attemptClaim (s : State) (tag : Byte) : State :=
  match s.request tag with
  | none => { s with req := { s.req with claimSlot := none } }
  | some r =>
    match earliestStart s r s.predictedEnd with
    | .start t =>
      (s.updateRequest tag (fun x => { x with claimSeq := some s.bus.ownSeq })).beginFrame (.claim tag)
        (claimPayload s r t)
    | .none limit => s.leaveRequest tag .denied limit
    | .full =>
      let s' := s.updateRequest tag (fun x => { x with state := .waiting })
      { s' with req := { s'.req with claimSlot := none } }

/-- The attempt start of a CANCEL: the target its slot holds (R49). -/
def State.attemptCancel (s : State) (tag : Byte) : State :=
  match s.req.cancelSlots.find? (fun c => c.tag == tag && !c.late) with
  | some c => s.beginFrame (.cancel tag) (.cancel c.target)
  | none => s

/-- The attempt start of the offered frame (R47, R49, R53). -/
def State.attempt (s : State) : State :=
  let u := s.clearDeferAt24.useBoundary
  match offered s with
  | none => s
  | some (.claim tag) => u.attemptClaim tag
  | some (.cancel tag) => u.attemptCancel tag
  | some .join => u.beginFrame .join (.join s.ownGroup)

/-- ATTEMPT_START (R47, R49, R133). -/
def execAttemptStart (s : State) : Out := onEvent attemptDue State.attempt s

/-! ### Arbitration and readback (R50, R52) -/

/-- The number of cells in which arbitration is settled: the start bit and the seven cells of the
arbitration field (R50, R182). -/
def arbitrationCells : Nat := 8

/-- The cell last sent and the level sampled in it, when both exist. -/
def lastExchange (x : Sending) (cells : List Cell) : Option (Cell × Cell) :=
  match cells.getLast?, x.frame.cells[cells.length - 1]? with
  | some sampled, some sent => some (sent, sampled)
  | _, _ => none

/-- Sent recessive and sampled dominant within the arbitration field: lost (R50). -/
def lossDue (s : State) : Bool :=
  match s.bus.transmit, s.bus.receive with
  | .arbitrating x, .inFrame cells => lastExchange x cells == some (true, false)
  | _, _ => false

/-- What a lost or abandoned attempt makes of the request whose frame it was (R134, R143, R144). -/
def Request.onAttemptOver (slot : SlotRef) (now : Tick) (r : Request) : Disposition :=
  if slot = .claim r.tag ∧ r.state = .sending ∧ r.mark then .leave .cancelled .none
  else if slot = .cancel r.tag ∧ r.state = .cancelling ∧ (r.start.any (fun t => reached t now)) then
    .leave .cancelled .none
  else .stay r

/-- The report of a lost or abandoned attempt at the Request Unit (R134, R143, R144). -/
def State.reportAttemptOver (s : State) (slot : SlotRef) : State :=
  s.settle [] (Request.onAttemptOver slot s.now)

/-- Arbitration lost: LINK released, the receive side stays IN FRAME as a receiver (R50); a waiting move
to ACTIVE is taken (R84). -/
def State.loseArbitration (s : State) : State :=
  match s.bus.transmit.frame with
  | none => s
  | some x =>
    (({ s with bus := { s.bus with transmit := .quiet } }).reportAttemptOver x.slot).takeWaitingMove

/-- ARBITRATION_LOST (R50). -/
def execArbitrationLost (s : State) : Out := onEvent lossDue State.loseArbitration s

/-- All cells of the arbitration field were sent without loss (R50). -/
def wonDue (s : State) : Bool :=
  match s.bus.transmit, s.bus.receive with
  | .arbitrating x, .inFrame cells =>
    arbitrationCells ≤ cells.length && cells.take arbitrationCells == x.frame.cells.take arbitrationCells
  | _, _ => false

/-- From ARBITRATING to SENDING (R44, R50). -/
def Transmit.won : Transmit → Transmit
  | .quiet => .quiet
  | .arbitrating x => .sending x
  | .sending x => .sending x

/-- ARBITRATION_WON (R50). -/
def execArbitrationWon (s : State) : Out :=
  onEvent wonDue (fun s => { s with bus := { s.bus with transmit := s.bus.transmit.won } }) s

/-- Sent dominant and sampled recessive while ARBITRATING, or any difference while SENDING (R50, R52). -/
def readbackDue (s : State) : Bool :=
  match s.bus.transmit, s.bus.receive with
  | .arbitrating x, .inFrame cells => lastExchange x cells == some (false, true)
  | .sending x, .inFrame cells =>
    match lastExchange x cells with
    | some (sent, sampled) => sent != sampled
    | none => false
  | _, _ => false

/-- The READBACK detection: this station's id, the kind and sequence of the frame it was sending,
unverified (R62). -/
def readbackDetection (s : State) (f : Frame) : Detection :=
  .plain .readback (some { sender := s.ownId, kind := f.kind, seq := f.seq, verified := false })

/-- READBACK: the own frame is abandoned and synchronisation cleared (R45, R52, R62), the detection is
taken, then the Request Unit hears of the abandoned attempt (log 11); a waiting move to ACTIVE is taken
(R84). -/
def State.failReadback (s : State) : State :=
  match s.bus.transmit.frame with
  | none => s
  | some x =>
    let s := { s with bus := { s.bus with transmit := .quiet, receive := .unsynchronised 0 } }
    let s := s.takeDetection (readbackDetection s x.frame)
    (s.reportAttemptOver x.slot).takeWaitingMove

/-- READBACK (R52). -/
def execReadback (s : State) : Out := onEvent readbackDue State.failReadback s

/-! ### The end of a frame -/

/-- The own frame has been sent and read back to its last cell (R54). -/
def completedDue (s : State) : Bool :=
  match s.bus.transmit, s.bus.receive with
  | .sending x, .inFrame cells => cells == x.frame.cells
  | _, _ => false

/-- What completion makes of the request of the slot: attempts rise and it becomes PENDING or CANCELLING
for a CLAIM (R135), it leaves with CANCELLED for its CANCEL (R144). -/
def Request.onCompleted (slot : SlotRef) (r : Request) : Disposition :=
  if slot = .claim r.tag ∧ r.state = .sending then
    .stay { r with attempts := r.attempts + 1,
                   state := if r.mark then .cancelling else .pending }
  else if slot = .cancel r.tag ∧ r.state = .cancelling then .leave .cancelled .none
  else .stay r

/-- Completion releases the frame's slot; a JOIN is then no longer owed (R54, R83). -/
def State.releaseSlot (s : State) (slot : SlotRef) : State :=
  match slot with
  | .claim _ => { s with req := { s.req with claimSlot := none } }
  | .cancel tag => { s with req := { s.req with
      cancelSlots := s.req.cancelSlots.filter (fun c => c.tag != tag) } }
  | .join => { s with req := { s.req with joinSlot := false },
                      ctrl := { s.ctrl with joinOwed := false } }

/-- The request tag that goes with an own CLAIM to the table (R24). -/
def SlotRef.claimTag : SlotRef → Option Byte
  | .claim tag => some tag
  | .cancel _ | .join => none

/-- The frame is a CLAIM (R54). -/
def SlotRef.isClaim (slot : SlotRef) : Bool := slot.claimTag.isSome

/-- Completion (R54): the sequence number advances, the slot is released, DEFER is set for a CLAIM, the
Request Unit is told; the frame end is recorded and the idle count restarts (R61); then stages 5 to 8
(R65), and a waiting move to ACTIVE (R84). -/
def State.completeFrame (s : State) : State :=
  match s.bus.transmit.frame with
  | none => s
  | some x =>
    let s := { s with bus := { s.bus with
      ownSeq := s.bus.ownSeq + 1, transmit := .quiet, receive := .outOfFrame 0
      defer := s.bus.defer || x.slot.isClaim } }
    let s := (s.releaseSlot x.slot).settle [] (Request.onCompleted x.slot)
    (s.takeOwn x.frame x.slot.claimTag).takeWaitingMove

/-- FRAME_COMPLETED (R54, R65). -/
def execFrameCompleted (s : State) : Out := onEvent completedDue State.completeFrame s

/-- What the Frame Checker makes of a frame that this station receives; it looks at no frame of its own
(R60, R61, R65). -/
def received (s : State) : CellCheck :=
  match s.bus.transmit, s.bus.receive with
  | .quiet, .inFrame cells => if s.ctrl.station.receiving then checkCells cells else .incomplete
  | _, _ => .incomplete

/-- A received frame has reached its frame end (R61). -/
def frameEndDue (s : State) : Bool :=
  match received s with
  | .complete _ => true
  | .failed _ | .incomplete => false

/-- The frame end: recorded, the idle count restarts, and the frame goes through stages 5 to 8 (R61,
R63, R64). -/
def State.endReceived (s : State) : State :=
  match received s with
  | .complete f => ({ s with bus := { s.bus with receive := .outOfFrame 0 } }).takeReceived f
  | .failed _ | .incomplete => s

/-- FRAME_END_RECEIVED (R61). -/
def execFrameEndReceived (s : State) : Out := onEvent frameEndDue State.endReceived s

/-- A received frame fails a check of stages 1 to 4 (R60, R61). -/
def checkFailedDue (s : State) : Bool :=
  match received s with
  | .failed _ => true
  | .complete _ | .incomplete => false

/-- The frame stops at the detection: the receive side leaves IN FRAME, synchronisation is cleared, and
the Log takes the detection (R62). -/
def State.failCheck (s : State) : State :=
  match received s with
  | .failed d => ({ s with bus := { s.bus with receive := .unsynchronised 0 } }).takeDetection d
  | .complete _ | .incomplete => s

/-- FRAME_CHECK_FAILED (R62). -/
def execFrameCheckFailed (s : State) : Out := onEvent checkFailedDue State.failCheck s

end Sys2Proof.Machine
end

