-- ==== Sys2Proof/Machine/Recovery.lean ====
section
/-!
DEFINITION. The recovery actions: what every block does at an observed fall of STOP_N (R103), the drain
of a LONG classification (R31), the rise (R105).
-/

namespace Sys2Proof.Machine

/-- What a fall makes of a request (R137, R138, R143, R144). `voided` holds the tags the exposure void
reported, `onBus` tells the slot whose frame the fall abandoned. -/
def Request.onFall (voided : List Byte) (abandoned : Option SlotRef) (now : Tick) (r : Request) :
    Disposition :=
  if voided.contains r.tag then
    match r.state with
    | .sending => if r.mark then .leave .cancelled .none else .front r.backToWaiting
    | .waiting | .pending | .granted | .firing | .cancelling => r.onVoided
  else match r.state with
    | .sending => if r.mark then .leave .cancelled .none else .front r.backToWaiting
    | .pending => if r.start = none then r.voided else .stay r
    | .cancelling =>
      if abandoned = some (.cancel r.tag) ∧ (r.start.any (fun t => reached t now)) then
        .leave .cancelled .none
      else .stay r
    | .waiting | .granted | .firing => .stay r

/-- The Station Controller at a fall (R86). A move to ACTIVE that waited for the own JOIN is given up:
the fall is taken instead (R84). -/
def Controller.onFall (c : Controller) : Controller :=
  match c.station with
  | .listening => { c with station := .quiesce, remembered := some .listening, moveWaits := false }
  | .active => { c with station := .quiesce, remembered := some .active, moveWaits := false }
  | .quiesce | .offline | .silent | .configFault => { c with moveWaits := false }

/-- The STOP Monitor at a fall: fall tick set, classification NONE, a held quiesce end kept (R103). -/
def StopMonitor.onFall (m : StopMonitor) (now : Tick) : StopMonitor :=
  { m with lineLow := true, fallTick := some now, classification := .none, busFaultRaised := false,
           lineTaken := true }

/-- An observed fall of STOP_N at every block (R103): the exposure void (R30), the Request Unit's answer
(R138), the roster (R74), the abandoned frame and the lost synchronisation (R55, R45), QUIESCE (R86)
and the RECOVERY flag (R108, R125). -/
def State.takeFall (s : State) : State :=
  let removed := s.table.filter (fun x : ClaimRecord => decide (x.state = .pending))
  let voided := voidedTags s.ownId removed
  let abandoned := s.bus.transmit.frame.map Sending.slot
  let changes := s.ctrl.station == .listening || s.ctrl.station == .active
  let s : State := { s with table := s.table.filter (fun x : ClaimRecord => decide (x.state = .confirmed)) }
  let s : State := s.settle voided (Request.onFall voided abandoned s.now)
  let s : State := { s with
    ctrl := s.ctrl.onFall
    bus := { s.bus with receive := .unsynchronised 0, transmit := .quiet }
    roster := unsyncRoster s.roster
    stop := s.stop.onFall s.now }
  let s : State := s.setFlag .recovery
  if changes then s.setFlag .state else s

/-- The drain: every record whose start is later than the classification tick is removed, and own
tagged ones are reported voided (R31). -/
def State.drain (s : State) (tick : Tick) : State :=
  let voided := voidedTags s.ownId (s.table.filter (fun x => later x.start tick))
  let s : State := { s with table := s.table.filter (fun x => !later x.start tick) }
  s.settle voided (fun r => if voided.contains r.tag then r.onVoided else .stay r)

/-- The quiesce end after a rise: the later of the one held and the candidate (R105). -/
def laterEnd (held : Option Tick) (candidate : Tick) : Tick :=
  match held with
  | some t => if later t candidate then t else candidate
  | none => candidate

/-- An observed rise (R105), with the restart of the join interval when LISTENING is remembered (R85). -/
def State.takeRise (s : State) : State :=
  let short := s.stop.classification == .none
  let quiet := match s.stop.classification with
    | .long _ => s.params.qLong
    | .none | .short => s.params.qShort
  let s : State := if short then s.count .short else s
  { s with
    ctrl := if s.ctrl.remembered = some .listening then
        { s.ctrl with joinEnd := some (plus s.now s.params.joinInterval) } else s.ctrl
    stop := { s.stop with
      lineLow := false, fallTick := none, lineTaken := true
      classification := if short then .short else s.stop.classification
      quiesceEnd := some (laterEnd s.stop.quiesceEnd (plus s.now quiet)) } }

/-- Observation begins at the entry to LISTENING: a line sampled low there is a fall at the entry tick
(R102). -/
def State.beginObserving (s : State) : State := if s.stopLow then s.takeFall else s

/-- The entry to LISTENING by JOIN or RESUME: the join interval starts, a JOIN is owed,
synchronisation is sought afresh, observation of STOP_N begins (R78, R82, R91, R102). -/
def State.enterListening (s : State) : State :=
  let s : State := s.enter .listening
  ({ s with
    ctrl := { s.ctrl with joinEnd := some (plus s.now s.params.joinInterval), joinOwed := true }
    bus := { s.bus with receive := .unsynchronised 0 } }).beginObserving

end Sys2Proof.Machine
end

