-- ==== Sys2Proof/WellFormed.lean ====
section
/-!
DEFINITION. Which terms are commands. The operands' widths are in their types; two rows carry a
condition on their bytes (R164, R165).
-/

namespace Sys2Proof

/-- UNKNOWN_COMMAND carries a byte that names no command (R164); TRANSACTION_DISCARDED carries bytes that
spell no whole command (R165). Every other term is a command. -/
def Instr.wellFormed : Instr → Bool
  | .unknownCommand code => (paramCount code).isNone
  | .transactionDiscarded received => !spellsCommand received
  | .powerOnReset | .resetRelease | .readState | .readTime | .readEvents | .fetchResult
  | .resultClockedOut | .query _ | .submit _ _ _ _ | .cancel _ | .abort _ | .join | .leave
  | .resume | .configure _ | .readConfig | .readErrorRecord | .clearError | .readCounters
  | .clearCounters | .readTable _ | .readRoster _ | .busSyncGained | .idleCount24
  | .attemptStart | .arbitrationLost | .readback | .frameCompleted | .frameEndReceived
  | .frameCheckFailed | .driveStart | .driveEnd | .stopFall | .longClassification | .stopRise
  | .quiesceEnd | .busFault | .joinIntervalEnd | .holdExpiry _ _ | .retirement _ _
  | .headToSending | .deadlineExpiry _ | .startTickReached _ | .channelEnd _ | .startBit
  | .arbitrationWon => true

end Sys2Proof
end

