-- ==== Sys2Proof/Machine/PortCommands.lean ====
section
/-!
DEFINITION. The commands of the local port (10_the_local_port.md): one meaning each. Every one is
answered at its taking, and none is taken while RESET_N is low, or in a transaction that a reset found in
progress (R167).
-/

namespace Sys2Proof.Machine

/-! ### Reading the station -/

/-- READ STATE (R178). -/
def execReadState (s : State) : Out :=
  onPort (fun s => s.answer .ok ([s.ctrl.station.code, byteOf s.table.length,
    byteOf s.req.list.length, byteOf s.port.results.length] ++ seqBytes s.bus.ownSeq
    ++ [flagsByte [s.bus.defer]])) s

/-- READ TIME (R178). -/
def execReadTime (s : State) : Out := onPort (fun s => s.answer .ok (tickBytes s.now)) s

/-- READ EVENTS: the flags as they stand, cleared in the same step (R126, R179). -/
def execReadEvents (s : State) : Out :=
  onPort (fun s =>
    { s with log := { s.log with flags := EventFlags.clear } }.answer .ok [s.log.flags.byte]) s

/-- READ CONFIG (R173). -/
def execReadConfig (s : State) : Out :=
  onPort (fun s => s.answer .ok (configBytes s.port.image s.port.digest)) s

/-- READ ERROR RECORD (R180). -/
def execReadErrorRecord (s : State) : Out :=
  onPort (fun s => s.answer .ok (errorBytes s.log.record s.log.overrun)) s

/-- READ COUNTERS (R180). -/
def execReadCounters (s : State) : Out :=
  onPort (fun s => s.answer .ok s.log.counters.bytes) s

/-- READ TABLE (R41, R181): the record at the index, EMPTY from the occupancy to 47, BAD_PARAM above. -/
def execReadTable (index : Byte) (s : State) : Out :=
  onPort (fun s =>
    if 47 < index.toNat then s.answer .badParam []
    else match s.table[index.toNat]? with
      | some x => s.answer .ok x.bytes
      | none => s.answer .empty []) s

/-- READ ROSTER (R77, R181). -/
def execReadRoster (id : Byte) (s : State) : Out :=
  onPort (fun s =>
    if 31 < id.toNat then s.answer .badParam []
    else s.answer .ok (s.entry (id.setWidth 5)).bytes) s

/-! ### The Detection Log -/

/-- CLEAR ERROR (R121). -/
def execClearError (s : State) : Out :=
  onPort (fun s => { s with log := { s.log with record := none, overrun := 0 } }.answer .ok []) s

/-- CLEAR COUNTERS (R124). -/
def execClearCounters (s : State) : Out :=
  onPort (fun s => { s with log := { s.log with counters := Counters.zero } }.answer .ok []) s

/-! ### The result queue -/

/-- FETCH RESULT (R170): the head entry is presented and stays; EMPTY when there is none. -/
def execFetchResult (s : State) : Out :=
  onPort (fun s =>
    match s.port.results with
    | [] => s.answer .empty []
    | r :: _ => { s with port := s.port.reply .ok r.bytes true }) s

/-- A FETCH RESULT that was answered OK still presents the head entry (R170), or did until a command was
taken at this very tick (R171). -/
def State.presenting (s : State) : Bool :=
  !s.resetHeld && (s.port.transaction.presents || s.port.fetchEnding)

/-- The response presents no entry any more (R170). -/
def Transaction.fetched : Transaction → Transaction
  | .answered wait st bytes _ => .answered wait st bytes false
  | .idle => .idle
  | .receiving => .receiving
  | .discarded => .discarded

/-- The presented entry leaves the queue, once (R170). -/
def State.removePresented (s : State) : State :=
  { s with port := { s.port with results := s.port.results.drop 1
                                 transaction := s.port.transaction.fetched
                                 fetchEnding := false } }

/-- RESULT_CLOCKED_OUT: the eighth response byte of a FETCH RESULT has been clocked out in full (R170). -/
def execResultClockedOut (s : State) : Out := onEvent State.presenting State.removePresented s

/-! ### Requests -/

/-- QUERY (R152, R177). -/
def execQuery (tag : Byte) (s : State) : Out :=
  onPort (fun s =>
    match s.request tag with
    | some r => s.answer .ok r.bytes
    | none => s.answer .unknownTag []) s

/-- The answer SUBMIT's checks give, in their order (R129, R130, R175). -/
def submitAnswer (tag cls : Byte) (s : State) : Status :=
  if !s.ctrl.station.receiving then .notActive
  else if tag = 0#8 || (s.request tag).isSome || 7 < cls.toNat
      || !(s.classOf (cls.setWidth 3)).enabled then .badParam
  else if 8 ≤ s.req.list.length || 16 ≤ s.req.list.length + s.port.results.length then .busy
  else .ok

/-- The request SUBMIT appends (R129). -/
def newRequest (tag cls : Byte) (notBefore deadline : Tick) : Request :=
  { tag := tag, cls := cls.setWidth 3, notBefore := notBefore, deadline := deadline,
    state := .waiting, attempts := 0, claimSeq := none, start := none, mark := false, overdue := false }

/-- SUBMIT (R129, R175). -/
def execSubmit (tag cls : Byte) (notBefore deadline : Tick) (s : State) : Out :=
  onPort (fun s =>
    match submitAnswer tag cls s with
    | .ok => { s with req := { s.req with
        list := s.req.list ++ [newRequest tag cls notBefore deadline] } }.answer .ok []
    | st => s.answer st []) s

/-- Places a CANCEL frame for a request's claim in a free CANCEL slot (R142, R145). -/
def State.placeCancel (s : State) (r : Request) : State :=
  { s with req := { s.req with
      cancelSlots := s.req.cancelSlots
        ++ [⟨r.claimSeq.getD 0, r.tag, r.start.any (fun t => reached t s.now)⟩] } }

/-- Both CANCEL slots are occupied (R142). -/
def State.cancelSlotsFull (s : State) : Bool := 2 ≤ s.req.cancelSlots.length

/-- A CANCEL taken before the attempt start of the claim it withdraws uses that boundary up: no frame begins
at it (R150). -/
def State.withholdBoundary (s : State) (tag : Byte) : State :=
  if offered s = some (.claim tag) then s.useBoundary else s

/-- What CANCEL does to a listed request, and its answer (R142). -/
def cancelRequest (s : State) (r : Request) : State × Status :=
  match r.state with
  | .waiting => (s.leaveRequest r.tag .cancelled .none, .ok)
  | .sending =>
    if !s.onBus (.claim r.tag) then
      ((s.withholdBoundary r.tag).leaveRequest r.tag .cancelled .none, .ok)
    else if r.mark then (s, .ok)
    else if s.cancelSlotsFull then (s, .busy)
    else ((s.placeCancel r).updateRequest r.tag (fun x => { x with mark := true }), .ok)
  | .cancelling => (s, .ok)
  | .pending | .granted =>
    if r.state = .pending ∧ r.start = none then (s.leaveRequest r.tag .cancelled .none, .ok)
    else if s.cancelSlotsFull then (s, .busy)
    else ((s.placeCancel r).updateRequest r.tag (fun x => { x with state := .cancelling }), .ok)
  | .firing => (s, .tooLate)

/-- CANCEL (R142, R176). -/
def execCancel (tag : Byte) (s : State) : Out :=
  onPort (fun s =>
    match s.request tag with
    | none => s.answer .unknownTag []
    | some r => (cancelRequest s r).1.answer (cancelRequest s r).2 []) s

/-- ABORT's cut of a busy channel: the pin goes low and the request leaves with ABORTED (R141, R158). -/
def State.cutChannel (s : State) (c : Channel) (e : ChannelEntry) : State :=
  (s.setChannel c none).leaveRequest e.tag .aborted .none

/-- ABORT (R158, R176). -/
def execAbort (channel : Byte) (s : State) : Out :=
  onPort (fun s =>
    if 3 < channel.toNat then s.answer .badParam []
    else match s.channel (channel.setWidth 2) with
      | none => s.answer .idle []
      | some e => (s.cutChannel (channel.setWidth 2) e).answer .ok []) s

/-! ### Configuration and the commands that move the station -/

/-- CONFIGURE (R172): taken in OFFLINE only, stored without a test. -/
def execConfigure (image : Image) (s : State) : Out :=
  onPort (fun s =>
    if s.ctrl.station = .offline then
      { s with port := { s.port with image := some image } }.answer .ok []
    else s.answer .wrongState []) s

/-- JOIN (R82, R174): validation (R7), the digest (R8), LISTENING. -/
def execJoin (s : State) : Out :=
  onPort (fun s =>
    if s.ctrl.station ≠ .offline then s.answer .wrongState []
    else match s.port.image with
      | none => s.answer .badConfig []
      | some img =>
        if validImage img then
          ({ s with port := { s.port with digest := some (imageDigest img) } }.enterListening).answer
            .ok []
        else s.answer .badConfig []) s

/-- LEAVE (R89, R174). -/
def execLeave (s : State) : Out :=
  onPort (fun s =>
    if s.ctrl.station = .offline then s.answer .wrongState []
    else s.enterOffline.answer .ok []) s

/-- RESUME (R91, R174). -/
def execResume (s : State) : Out :=
  onPort (fun s =>
    if s.ctrl.station = .silent then s.enterListening.answer .ok []
    else s.answer .wrongState []) s

/-! ### Bytes that are no command -/

/-- UNKNOWN_COMMAND (R164): answered BAD_PARAM, no effect on any block. -/
def execUnknownCommand (code : Byte) (s : State) : Out :=
  if (Instr.unknownCommand code).wellFormed then onPort (fun s => s.answer .badParam []) s
  else .refused .illFormed

/-- TRANSACTION_DISCARDED (R165, R167): CS_N rises, and no block sees the transaction. -/
def execTransactionDiscarded (received : List Byte) (s : State) : Out :=
  if (Instr.transactionDiscarded received).wellFormed then
    .next { s with port := { s.port with transaction := .idle } }
  else .refused .illFormed

/-! ### What the board controller reads on SDO (R163) -/

/-- The byte that SDO shows as byte `k`, `none` where SDO is driven to no level. Of a command that was
taken, `k` counts from 0, the status, and the filler 255 comes before the status is ready; 0 while a
command and its parameters arrive (R163, R165, R167). -/
def State.sdo (s : State) (k : Nat) : Option Byte :=
  if s.resetHeld then none
  else match s.port.transaction with
    | .idle => none
    | .receiving => some 0#8
    | .answered 0 st response _ => some ((st.code :: response).getD k 0#8)
    | .answered (_ + 1) _ _ _ => some 255#8
    | .discarded => Config.discardedSdo s.now k

end Sys2Proof.Machine
end

