-- ==== Sys2Proof/Machine/Resets.lean ====
section
/-!
DEFINITION. Power-on, RESET_N and its release (05, R81).
-/

namespace Sys2Proof.Machine

/-- A transaction that a reset finds in progress is discarded, whatever point it had reached, until CS_N
rises (R167). -/
def Transaction.onReset : Transaction → Transaction
  | .idle => .idle
  | .receiving | .answered _ _ _ _ | .discarded => .discarded

/-- The values held at power-on and while RESET_N is low (R81). What stands outside the station is not
reset: the levels the peers and the board controller drive, and the model's own counters and queue. -/
def State.held (s : State) : State :=
  { State.reset with
    resetHeld := true
    bus := { BusInterface.reset with peers := s.bus.peers, lastCell := s.bus.lastCell }
    stop := { StopMonitor.reset with peersLow := s.stop.peersLow, peers := s.stop.peers }
    port := { State.reset.port with transaction := s.port.transaction.onReset
                                    takings := s.port.takings, selects := s.port.selects }
    choices := s.choices
    pending := s.pending }

/-- POWER_ON_RESET: in whatever state it finds the station (R81, R149, R162). -/
def execPowerOnReset (s : State) : Out := .next s.held

/-- RESET_RELEASE: the station begins to act on the values it holds; the counter counts from 0 (R1,
R81). -/
def execResetRelease (s : State) : Out := .next { s with resetHeld := false }

end Sys2Proof.Machine
end

