-- ==== Sys2Proof/Machine/StopEvents.lean ====
section
/-!
DEFINITION. The events on STOP_N (06_the_stop_line_and_recovery.md): the drive, the fall, the
classification, the rise, the quiesce end and the stuck limit.
-/

namespace Sys2Proof.Machine

/-! ### The drive (R98, R100) -/

/-- The drive start is reached and was not taken yet (R98). -/
def driveStartDue (s : State) : Bool :=
  match s.stop.drive with
  | .released => false
  | .driving _ start _ pulling => !pulling && reached start s.now

/-- The station pulls the line (R98). -/
def Drive.pull : Drive → Drive
  | .released => .released
  | .driving c start finish _ => .driving c start finish true

/-- DRIVE_START's effect: the line is pulled; an IDENTITY that waited for it takes the station to
CONFIG_FAULT (R93, R98, R100). -/
def State.startDrive (s : State) : State :=
  let s := { s with stop := { s.stop with drive := s.stop.drive.pull } }
  if s.ctrl.identityOwed then s.enterConfigFault else s

/-- DRIVE_START (R98). -/
def execDriveStart (s : State) : Out := onEvent driveStartDue State.startDrive s

/-- The drive end is reached (R98). -/
def driveEndDue (s : State) : Bool :=
  match s.stop.drive with
  | .released => false
  | .driving _ _ finish _ => reached finish s.now

/-- DRIVE_END: the line is released (R98). -/
def execDriveEnd (s : State) : Out :=
  onEvent driveEndDue (fun s => { s with stop := { s.stop with drive := .released } }) s

/-! ### Watching the line (R101 to R107) -/

/-- A fall is observed: the line is sampled low after it was sampled high (R101). -/
def fallDue (s : State) : Bool :=
  s.ctrl.station.receiving && !s.stop.lineLow && s.stopLow && !s.stop.lineTaken

/-- STOP_FALL (R103). -/
def execStopFall (s : State) : Out := onEvent fallDue State.takeFall s

/-- The line is low at the tick that lies `n` after the fall tick, or later (R104, R107). -/
def lowSince (s : State) (n : Nat) : Bool :=
  s.ctrl.station.receiving && s.stop.lineLow && s.stopLow
    && s.stop.fallTick.any (fun f => reached (plus f n) s.now)

/-- The pulse is unclassified and the line is still low 60 ticks after the fall (R104). -/
def longDue (s : State) : Bool := decide (s.stop.classification = .none) && lowSince s 60

/-- The classification tick: the fall tick + 60 (R104). -/
def classificationTick (s : State) : Tick := plus (s.stop.fallTick.getD 0) 60

/-- The LONG classification: counted, and the table drains (R104, R31). -/
def State.classifyLong (s : State) : State :=
  let t := classificationTick s
  (({ s with stop := { s.stop with classification := .long t } }).count .long).drain t

/-- LONG_CLASSIFICATION (R104). -/
def execLongClassification (s : State) : Out := onEvent longDue State.classifyLong s

/-- A rise is observed in QUIESCE: the line is sampled high after it was sampled low (R101, R105). -/
def riseDue (s : State) : Bool :=
  decide (s.ctrl.station = .quiesce) && s.stop.lineLow && !s.stopLow && !s.stop.lineTaken

/-- STOP_RISE (R105). -/
def execStopRise (s : State) : Out := onEvent riseDue State.takeRise s

/-- The held quiesce end is reached in QUIESCE (R106). -/
def quiesceEndDue (s : State) : Bool :=
  decide (s.ctrl.station = .quiesce) && s.stop.quiesceEnd.any (fun t => reached t s.now)

/-- The return to the remembered state with DEFER cleared; in LISTENING an owed JOIN is placed (R83,
R87). -/
def State.resumeWork (s : State) : State :=
  match s.ctrl.remembered with
  | none => s
  | some w =>
    let s := s.enter w.toState
    ({ s with ctrl := { s.ctrl with remembered := none },
              bus := { s.bus with defer := false } }).placeJoin

/-- The quiesce end: taken while the line reads HIGH, passed over while it reads LOW (R106). -/
def State.endQuiesce (s : State) : State :=
  let s' := { s with stop := { s.stop with quiesceEnd := none } }
  if s.stop.lineLow then s' else s'.resumeWork

/-- QUIESCE_END (R106). -/
def execQuiesceEnd (s : State) : Out := onEvent quiesceEndDue State.endQuiesce s

/-- The stuck limit: low 2,000 ticks after the fall, and not raised for this pulse yet (R107). -/
def busFaultDue (s : State) : Bool := !s.stop.busFaultRaised && lowSince s 2000

/-- BUS_FAULT (R107). -/
def execBusFault (s : State) : Out :=
  onEvent busFaultDue (fun s =>
    ({ s with stop := { s.stop with busFaultRaised := true } }).setFlag .busFault) s

end Sys2Proof.Machine
end

