-- ==== Sys2Proof/Machine/TimedEvents.lean ====
section
/-!
DEFINITION. The timed events of the Station Controller, the Claim Table, the Request Unit and the Output
Unit: join-interval end, hold expiry, retirement, the head's move, deadline expiry, start tick, channel
end.
-/

namespace Sys2Proof.Machine

/-! ### Station Controller -/

/-- The join-interval end is reached in LISTENING, and the move does not wait already (R84). -/
def joinEndDue (s : State) : Bool :=
  decide (s.ctrl.station = .listening) && !s.ctrl.moveWaits
    && s.ctrl.joinEnd.any (fun t => reached t s.now)

/-- The move to ACTIVE, which waits while the own JOIN is on LINK (R57, R84). -/
def State.endJoinInterval (s : State) : State :=
  if s.onBus .join then { s with ctrl := { s.ctrl with moveWaits := true } } else s.enterActive

/-- JOIN_INTERVAL_END (R84). -/
def execJoinIntervalEnd (s : State) : Out := onEvent joinEndDue State.endJoinInterval s

/-! ### Claim Table -/

/-- The record is PENDING and its hold expiry is reached (R28). -/
def holdOver (s : State) (owner : StationId) (seq : Seq) (r : ClaimRecord) : Bool :=
  isRecord owner seq r && decide (r.state = .pending) && reached (holdEnd s.params r) s.now

/-- Some record of this name has its hold expiry due (R28). -/
def holdDue (owner : StationId) (seq : Seq) (s : State) : Bool := s.table.any (holdOver s owner seq)

/-- The hold expiry: the record becomes CONFIRMED in its place, and an own tagged one is reported
(R28). -/
def State.expireHold (owner : StationId) (seq : Seq) (s : State) : State :=
  let tags := voidedTags s.ownId (s.table.filter (holdOver s owner seq))
  let s' := { s with table := s.table.map (fun r =>
    if holdOver s owner seq r then { r with state := .confirmed } else r) }
  tags.foldl State.reportConfirmed s'

/-- HOLD_EXPIRY (R28). -/
def execHoldExpiry (owner : StationId) (seq : Seq) (s : State) : Out :=
  onEvent (holdDue owner seq) (State.expireHold owner seq) s

/-- The record has this name and its retire point is reached (R29). -/
def retired (s : State) (owner : StationId) (seq : Seq) (r : ClaimRecord) : Bool :=
  isRecord owner seq r && reached (retirePoint s.params r) s.now

/-- Some record of this name has its retirement due (R29). -/
def retirementDue (owner : StationId) (seq : Seq) (s : State) : Bool := s.table.any (retired s owner seq)

/-- RETIREMENT: the record is removed, in whatever state; no detection and no outcome (R29). -/
def execRetirement (owner : StationId) (seq : Seq) (s : State) : Out :=
  onEvent (retirementDue owner seq)
    (fun s => { s with table := s.table.filter (fun r => !retired s owner seq r) }) s

/-! ### Request Unit -/

/-- The head may begin negotiation: ACTIVE, nothing own SENDING or PENDING, the table not full (R132). -/
def headDue (s : State) : Bool :=
  decide (s.ctrl.station = .active) && !s.req.list.any Request.negotiating && hasRoom s.table
    && s.head.isSome

/-- The deadline tick is earlier than now + H + 2G; one more than 2^31 - 1 ahead of now reads as past
(R2, R139). -/
def deadlineOver (s : State) (r : Request) : Bool := decide (tickDiff r.deadline s.now < s.params.minLead)

/-- The head moves to SENDING and its claim goes into the CLAIM slot (R132). Whether its deadline expiry
was due at the same instant decides its first attempt (R151). -/
def State.moveHead (s : State) : State :=
  match s.head with
  | none => s
  | some r =>
    let u := s.updateRequest r.tag (fun x => { x with state := .sending, overdue := deadlineOver s r })
    { u with req := { u.req with claimSlot := some r.tag } }

/-- HEAD_TO_SENDING (R132). -/
def execHeadToSending (s : State) : Out := onEvent headDue State.moveHead s

/-- The request is WAITING and its deadline is over (R139). -/
def deadlineDue (tag : Byte) (s : State) : Bool :=
  (s.request tag).any (fun r => decide (r.state = .waiting) && deadlineOver s r)

/-- DEADLINE_EXPIRY: it leaves with DENIED and DEADLINE (R139). -/
def execDeadlineExpiry (tag : Byte) (s : State) : Out :=
  onEvent (deadlineDue tag) (fun s => s.leaveRequest tag .denied .deadline) s

/-- The start tick of a GRANTED request is reached, or of a CANCELLING one whose CANCEL frame is not on
the bus. A CANCELLING request whose CANCEL frame is on the bus goes on with its start passed, which
changes nothing (R140, R144). -/
def startDue (tag : Byte) (s : State) : Bool :=
  (s.request tag).any (fun r => r.start.any (fun t => reached t s.now)
    && (decide (r.state = .granted)
      || (decide (r.state = .cancelling) && !s.onBus (.cancel tag))))

/-- The end of a busy channel's pulse: the channel is idle and its request leaves with DONE (R141,
R156). -/
def State.endPulse (s : State) (c : Channel) (e : ChannelEntry) : State :=
  (s.setChannel c none).leaveRequest e.tag .done .none

/-- The request becomes FIRING and its channel is filled, so that the pin is high until start plus
duration (R140, R155). -/
def State.fillChannel (s : State) (r : Request) : State :=
  (s.updateRequest r.tag (fun x => { x with state := .firing })).setChannel (s.channelOf r.cls)
    (some ⟨r.tag, plus (r.start.getD 0) (s.classOf r.cls).duration⟩)

/-- A start handed to the Output Unit (R155). A busy channel whose end tick is reached ends first; one
whose end tick is not reached cannot be met, and the step faults (log 18). -/
def State.fire (s : State) (r : Request) : Out :=
  match s.channel (s.channelOf r.cls) with
  | none => .next (s.fillChannel r)
  | some e =>
    if reached e.endTick s.now then .next ((s.endPulse (s.channelOf r.cls) e).fillChannel r)
    else .fault .channelHeld

/-- START_TICK_REACHED (R140, R144, R157). -/
def execStartTickReached (tag : Byte) (s : State) : Out :=
  if startDue tag s then
    match s.request tag with
    | none => .next s
    | some r =>
      if r.state = .granted then s.fire r
      else .next (s.leaveRequest tag .cancelled .none)
  else .next s

/-! ### Output Unit -/

/-- The channel is busy and its end tick is reached (R156). -/
def channelEndDue (c : Channel) (s : State) : Bool :=
  (s.channel c).any (fun e => reached e.endTick s.now)

/-- The channel's pulse ends if it is busy (R156). -/
def State.endChannel (c : Channel) (s : State) : State :=
  match s.channel c with
  | some e => s.endPulse c e
  | none => s

/-- CHANNEL_END (R156). -/
def execChannelEnd (c : Channel) (s : State) : Out := onEvent (channelEndDue c) (State.endChannel c) s

end Sys2Proof.Machine
end

