-- ==== Sys2Proof/Machine/Dispatch.lean ====
section
/-!
DEFINITION. One arm per command, in the order of spec/opcode_table.json.
-/

namespace Sys2Proof.Machine

def exec (i : Instr) (s : State) : Host.Outcome State Fault Refusal :=
  match i with
  | .powerOnReset => Sys2Proof.Machine.execPowerOnReset s
  | .resetRelease => Sys2Proof.Machine.execResetRelease s
  | .readState => Sys2Proof.Machine.execReadState s
  | .readTime => Sys2Proof.Machine.execReadTime s
  | .readEvents => Sys2Proof.Machine.execReadEvents s
  | .fetchResult => Sys2Proof.Machine.execFetchResult s
  | .resultClockedOut => Sys2Proof.Machine.execResultClockedOut s
  | .query tag => Sys2Proof.Machine.execQuery tag s
  | .submit tag cls notBefore deadline => Sys2Proof.Machine.execSubmit tag cls notBefore deadline s
  | .cancel tag => Sys2Proof.Machine.execCancel tag s
  | .abort channel => Sys2Proof.Machine.execAbort channel s
  | .join => Sys2Proof.Machine.execJoin s
  | .leave => Sys2Proof.Machine.execLeave s
  | .resume => Sys2Proof.Machine.execResume s
  | .configure image => Sys2Proof.Machine.execConfigure image s
  | .readConfig => Sys2Proof.Machine.execReadConfig s
  | .readErrorRecord => Sys2Proof.Machine.execReadErrorRecord s
  | .clearError => Sys2Proof.Machine.execClearError s
  | .readCounters => Sys2Proof.Machine.execReadCounters s
  | .clearCounters => Sys2Proof.Machine.execClearCounters s
  | .readTable index => Sys2Proof.Machine.execReadTable index s
  | .readRoster id => Sys2Proof.Machine.execReadRoster id s
  | .unknownCommand code => Sys2Proof.Machine.execUnknownCommand code s
  | .transactionDiscarded received => Sys2Proof.Machine.execTransactionDiscarded received s
  | .busSyncGained => Sys2Proof.Machine.execBusSyncGained s
  | .idleCount24 => Sys2Proof.Machine.execIdleCount24 s
  | .attemptStart => Sys2Proof.Machine.execAttemptStart s
  | .arbitrationLost => Sys2Proof.Machine.execArbitrationLost s
  | .readback => Sys2Proof.Machine.execReadback s
  | .frameCompleted => Sys2Proof.Machine.execFrameCompleted s
  | .frameEndReceived => Sys2Proof.Machine.execFrameEndReceived s
  | .frameCheckFailed => Sys2Proof.Machine.execFrameCheckFailed s
  | .driveStart => Sys2Proof.Machine.execDriveStart s
  | .driveEnd => Sys2Proof.Machine.execDriveEnd s
  | .stopFall => Sys2Proof.Machine.execStopFall s
  | .longClassification => Sys2Proof.Machine.execLongClassification s
  | .stopRise => Sys2Proof.Machine.execStopRise s
  | .quiesceEnd => Sys2Proof.Machine.execQuiesceEnd s
  | .busFault => Sys2Proof.Machine.execBusFault s
  | .joinIntervalEnd => Sys2Proof.Machine.execJoinIntervalEnd s
  | .holdExpiry owner seq => Sys2Proof.Machine.execHoldExpiry owner seq s
  | .retirement owner seq => Sys2Proof.Machine.execRetirement owner seq s
  | .headToSending => Sys2Proof.Machine.execHeadToSending s
  | .deadlineExpiry tag => Sys2Proof.Machine.execDeadlineExpiry tag s
  | .startTickReached tag => Sys2Proof.Machine.execStartTickReached tag s
  | .channelEnd channel => Sys2Proof.Machine.execChannelEnd channel s
  | .startBit => Sys2Proof.Machine.execStartBit s
  | .arbitrationWon => Sys2Proof.Machine.execArbitrationWon s

end Sys2Proof.Machine
end

