-- ==== Sys2Proof/Machine/Tick.lean ====
section
/-!
DEFINITION. Time: the advance of the tick counter with one cell of LINK and one sample of STOP_N (R1,
R43, R45, R46, R101) and one level of CS_N (R163), and the events that are due at an instant (R2).
-/

namespace Sys2Proof.Machine

/-- The level of LINK that the station samples in the present cell: wired-AND of this station's driver and the
peers' (R42). That nothing disturbs the station's own input is the model's choice, so a tick never samples
recessive what the station sends dominant (log 35). -/
def BusInterface.level (b : BusInterface) : Cell := b.driver && b.peers.headD true

/-- The receive side after one more cell: the count of recessive cells while UNSYNCHRONISED (R45), the
idle count up to 255 while OUT OF FRAME (R46), the decoded cells while IN FRAME. -/
def Receive.sample (cell : Cell) : Receive → Receive
  | .unsynchronised run => .unsynchronised (if cell then min 24 (run + 1) else 0)
  | .outOfFrame idle => .outOfFrame (if cell then min 255 (idle + 1) else idle)
  | .inFrame cells => .inFrame (cells ++ [cell])

/-- The Bus Interface over one cell; a station that does not decode LINK counts nothing (R45). -/
def BusInterface.tick (b : BusInterface) (receiving : Bool) : BusInterface :=
  { b with receive := if receiving then b.receive.sample b.level else b.receive
           lastCell := b.level, attempted := false, peers := b.peers.tail }

/-- The STOP Monitor comes to its next sample (R101). -/
def StopMonitor.tick (m : StopMonitor) : StopMonitor :=
  { m with lineTaken := false, peersLow := m.peers.headD false, peers := m.peers.tail }

/-- The transaction after one more tick with CS_N at a level: a rise ends it, whatever was not clocked out
being lost, and a fall begins one, which is discarded while RESET_N is low (R163, R165, R167). -/
def Transaction.tick (low held : Bool) (t : Transaction) : Transaction :=
  if !low then .idle
  else match t with
    | .idle => if held then .discarded else .receiving
    | .receiving => .receiving
    | .answered wait st bytes fetching => .answered (wait - 1) st bytes fetching
    | .discarded => .discarded

/-- The Local Port comes to the next tick (R163). -/
def LocalPort.tick (p : LocalPort) (held : Bool) : LocalPort :=
  { p with transaction := p.transaction.tick (p.selects.headD false) held
           fetchEnding := false, selects := p.selects.tail }

/-- One tick of the time base. While the reset is held the counter holds 0 (R1). -/
def State.tick (s : State) : State :=
  { s with now := if s.resetHeld then s.now else s.now + 1
           bus := s.bus.tick s.ctrl.station.receiving
           stop := s.stop.tick
           port := s.port.tick s.resetHeld }

/-- The condition of an event command at a state; the other rows are never due of themselves. -/
def isDue (s : State) : Instr → Bool
  | .busSyncGained => syncDue s
  | .idleCount24 => idle24Due s
  | .attemptStart => attemptDue s
  | .arbitrationLost => lossDue s
  | .readback => readbackDue s
  | .frameCompleted => completedDue s
  | .frameEndReceived => frameEndDue s
  | .frameCheckFailed => checkFailedDue s
  | .driveStart => driveStartDue s
  | .driveEnd => driveEndDue s
  | .stopFall => fallDue s
  | .longClassification => longDue s
  | .stopRise => riseDue s
  | .quiesceEnd => quiesceEndDue s
  | .busFault => busFaultDue s
  | .joinIntervalEnd => joinEndDue s
  | .holdExpiry owner seq => holdDue owner seq s
  | .retirement owner seq => retirementDue owner seq s
  | .headToSending => headDue s
  | .deadlineExpiry tag => deadlineDue tag s
  | .startTickReached tag => startDue tag s
  | .channelEnd c => channelEndDue c s
  | .startBit => startBitDue s
  | .arbitrationWon => wonDue s
  | .powerOnReset | .resetRelease | .readState | .readTime | .readEvents | .fetchResult
  | .resultClockedOut | .query _ | .submit _ _ _ _ | .cancel _ | .abort _ | .join | .leave
  | .resume | .configure _ | .readConfig | .readErrorRecord | .clearError | .readCounters
  | .clearCounters | .readTable _ | .readRoster _ | .unknownCommand _
  | .transactionDiscarded _ => false

/-- Every event command that can concern the records, requests and channels there are. -/
def eventCommands (s : State) : List Instr :=
  [.busSyncGained, .idleCount24, .attemptStart, .arbitrationLost, .arbitrationWon, .readback,
    .frameCompleted, .frameEndReceived, .frameCheckFailed, .startBit, .driveStart, .driveEnd,
    .stopFall, .longClassification, .stopRise, .quiesceEnd, .busFault, .joinIntervalEnd,
    .headToSending, .channelEnd 0, .channelEnd 1, .channelEnd 2, .channelEnd 3]
    ++ s.table.map (fun r => .holdExpiry r.owner r.seq)
    ++ s.table.map (fun r => .retirement r.owner r.seq)
    ++ s.req.list.map (fun r => .deadlineExpiry r.tag)
    ++ s.req.list.map (fun r => .startTickReached r.tag)

/-- The events due at this instant (R2). -/
def dueEvents (s : State) : List Instr := (eventCommands s).filter (isDue s)

/-- The event taken first of several that are due: the manual lets either be taken first (log 3). -/
def choose (k : Nat) (c : Instr) (rest : List Instr) : Instr :=
  (c :: rest).getD (Config.firstTaken k % (rest.length + 1)) c

/-- What the station does of itself when no command waits: it takes up an event that is due, and when
none is due the tick counter advances (R2, logs 1 and 3). -/
def State.idle (s : State) : State :=
  match dueEvents s with
  | [] => s.tick
  | [c] => { s with pending := [c] }
  | c :: c' :: rest =>
    { s with pending := [choose s.choices c (c' :: rest)], choices := s.choices + 1 }

end Sys2Proof.Machine
end

