-- ==== Sys2Proof/Machine/Step.lean ====
section
/-!
DEFINITION. One step: the command at the front of the queue, or, when none waits, what the station does
of itself (log 1).
-/

namespace Sys2Proof.Machine

/-- Takes the command at the front of the queue and runs it on the state with the queue's rest. On an
empty queue the station takes up an event that is due, or lets the tick counter advance. -/
def step (s : State) : Host.Outcome State Fault Refusal :=
  match s.pending with
  | c :: rest => exec c { s with pending := rest }
  | [] => .next s.idle

/-- The state with the command that a word spells at the front of its queue. The table gives no row
bits, so no word spells one and the state stands (log 25). -/
def State.withFetchWord (s : State) (nbits w : Nat) : State :=
  match decodeTableWord nbits w with
  | some c => { s with pending := c :: s.pending }
  | none => s

end Sys2Proof.Machine
end

