-- ==== Sys2Proof/Laws/State.lean ====
section
/-!
SUPPORT. One lemma per field per update of State, true by `rfl`: what each named update leaves alone, and
what it writes.
-/

namespace Sys2Proof.Machine

variable (s : State)

@[simp] theorem State.setFlag_resetHeld (f : Flag) : (s.setFlag f).resetHeld = s.resetHeld := rfl
@[simp] theorem State.setFlag_now (f : Flag) : (s.setFlag f).now = s.now := rfl
@[simp] theorem State.setFlag_ctrl (f : Flag) : (s.setFlag f).ctrl = s.ctrl := rfl
@[simp] theorem State.setFlag_bus (f : Flag) : (s.setFlag f).bus = s.bus := rfl
@[simp] theorem State.setFlag_table (f : Flag) : (s.setFlag f).table = s.table := rfl
@[simp] theorem State.setFlag_roster (f : Flag) : (s.setFlag f).roster = s.roster := rfl
@[simp] theorem State.setFlag_stop (f : Flag) : (s.setFlag f).stop = s.stop := rfl
@[simp] theorem State.setFlag_req (f : Flag) : (s.setFlag f).req = s.req := rfl
@[simp] theorem State.setFlag_out (f : Flag) : (s.setFlag f).out = s.out := rfl
@[simp] theorem State.setFlag_log (f : Flag) :
    (s.setFlag f).log =
      { s.log with flags := s.log.flags.set f } := rfl
@[simp] theorem State.setFlag_port (f : Flag) : (s.setFlag f).port = s.port := rfl
@[simp] theorem State.setFlag_choices (f : Flag) : (s.setFlag f).choices = s.choices := rfl
@[simp] theorem State.setFlag_pending (f : Flag) : (s.setFlag f).pending = s.pending := rfl

@[simp] theorem State.count_resetHeld (c : Counter) : (s.count c).resetHeld = s.resetHeld := rfl
@[simp] theorem State.count_now (c : Counter) : (s.count c).now = s.now := rfl
@[simp] theorem State.count_ctrl (c : Counter) : (s.count c).ctrl = s.ctrl := rfl
@[simp] theorem State.count_bus (c : Counter) : (s.count c).bus = s.bus := rfl
@[simp] theorem State.count_table (c : Counter) : (s.count c).table = s.table := rfl
@[simp] theorem State.count_roster (c : Counter) : (s.count c).roster = s.roster := rfl
@[simp] theorem State.count_stop (c : Counter) : (s.count c).stop = s.stop := rfl
@[simp] theorem State.count_req (c : Counter) : (s.count c).req = s.req := rfl
@[simp] theorem State.count_out (c : Counter) : (s.count c).out = s.out := rfl
@[simp] theorem State.count_log (c : Counter) :
    (s.count c).log =
      { s.log with counters := s.log.counters.advance c } := rfl
@[simp] theorem State.count_port (c : Counter) : (s.count c).port = s.port := rfl
@[simp] theorem State.count_choices (c : Counter) : (s.count c).choices = s.choices := rfl
@[simp] theorem State.count_pending (c : Counter) : (s.count c).pending = s.pending := rfl

@[simp] theorem State.enter_resetHeld (st : StationState) :
    (s.enter st).resetHeld =
      s.resetHeld := rfl
@[simp] theorem State.enter_now (st : StationState) : (s.enter st).now = s.now := rfl
@[simp] theorem State.enter_ctrl (st : StationState) :
    (s.enter st).ctrl =
      { s.ctrl with station := st } := rfl
@[simp] theorem State.enter_bus (st : StationState) : (s.enter st).bus = s.bus := rfl
@[simp] theorem State.enter_table (st : StationState) : (s.enter st).table = s.table := rfl
@[simp] theorem State.enter_roster (st : StationState) : (s.enter st).roster = s.roster := rfl
@[simp] theorem State.enter_stop (st : StationState) : (s.enter st).stop = s.stop := rfl
@[simp] theorem State.enter_req (st : StationState) : (s.enter st).req = s.req := rfl
@[simp] theorem State.enter_out (st : StationState) : (s.enter st).out = s.out := rfl
@[simp] theorem State.enter_log (st : StationState) :
    (s.enter st).log =
      { s.log with flags := s.log.flags.set .state } := rfl
@[simp] theorem State.enter_port (st : StationState) : (s.enter st).port = s.port := rfl
@[simp] theorem State.enter_choices (st : StationState) : (s.enter st).choices = s.choices := rfl
@[simp] theorem State.enter_pending (st : StationState) : (s.enter st).pending = s.pending := rfl

@[simp] theorem State.answer_resetHeld (st : Status) (bytes : List Byte) :
    (s.answer st bytes).resetHeld =
      s.resetHeld := rfl
@[simp] theorem State.answer_now (st : Status) (bytes : List Byte) :
    (s.answer st bytes).now =
      s.now := rfl
@[simp] theorem State.answer_ctrl (st : Status) (bytes : List Byte) :
    (s.answer st bytes).ctrl =
      s.ctrl := rfl
@[simp] theorem State.answer_bus (st : Status) (bytes : List Byte) :
    (s.answer st bytes).bus =
      s.bus := rfl
@[simp] theorem State.answer_table (st : Status) (bytes : List Byte) :
    (s.answer st bytes).table =
      s.table := rfl
@[simp] theorem State.answer_roster (st : Status) (bytes : List Byte) :
    (s.answer st bytes).roster =
      s.roster := rfl
@[simp] theorem State.answer_stop (st : Status) (bytes : List Byte) :
    (s.answer st bytes).stop =
      s.stop := rfl
@[simp] theorem State.answer_req (st : Status) (bytes : List Byte) :
    (s.answer st bytes).req =
      s.req := rfl
@[simp] theorem State.answer_out (st : Status) (bytes : List Byte) :
    (s.answer st bytes).out =
      s.out := rfl
@[simp] theorem State.answer_log (st : Status) (bytes : List Byte) :
    (s.answer st bytes).log =
      s.log := rfl
@[simp] theorem State.answer_port (st : Status) (bytes : List Byte) :
    (s.answer st bytes).port =
      s.port.reply st bytes false := rfl
@[simp] theorem State.answer_choices (st : Status) (bytes : List Byte) :
    (s.answer st bytes).choices =
      s.choices := rfl
@[simp] theorem State.answer_pending (st : Status) (bytes : List Byte) :
    (s.answer st bytes).pending =
      s.pending := rfl

@[simp] theorem State.setEntry_resetHeld (id : StationId) (e : RosterEntry) :
    (s.setEntry id e).resetHeld =
      s.resetHeld := rfl
@[simp] theorem State.setEntry_now (id : StationId) (e : RosterEntry) :
    (s.setEntry id e).now =
      s.now := rfl
@[simp] theorem State.setEntry_ctrl (id : StationId) (e : RosterEntry) :
    (s.setEntry id e).ctrl =
      s.ctrl := rfl
@[simp] theorem State.setEntry_bus (id : StationId) (e : RosterEntry) :
    (s.setEntry id e).bus =
      s.bus := rfl
@[simp] theorem State.setEntry_table (id : StationId) (e : RosterEntry) :
    (s.setEntry id e).table =
      s.table := rfl
@[simp] theorem State.setEntry_roster (id : StationId) (e : RosterEntry) :
    (s.setEntry id e).roster =
      s.roster.set id.toNat e id.isLt := rfl
@[simp] theorem State.setEntry_stop (id : StationId) (e : RosterEntry) :
    (s.setEntry id e).stop =
      s.stop := rfl
@[simp] theorem State.setEntry_req (id : StationId) (e : RosterEntry) :
    (s.setEntry id e).req =
      s.req := rfl
@[simp] theorem State.setEntry_out (id : StationId) (e : RosterEntry) :
    (s.setEntry id e).out =
      s.out := rfl
@[simp] theorem State.setEntry_log (id : StationId) (e : RosterEntry) :
    (s.setEntry id e).log =
      s.log := rfl
@[simp] theorem State.setEntry_port (id : StationId) (e : RosterEntry) :
    (s.setEntry id e).port =
      s.port := rfl
@[simp] theorem State.setEntry_choices (id : StationId) (e : RosterEntry) :
    (s.setEntry id e).choices =
      s.choices := rfl
@[simp] theorem State.setEntry_pending (id : StationId) (e : RosterEntry) :
    (s.setEntry id e).pending =
      s.pending := rfl

@[simp] theorem State.updateRequest_resetHeld (tag : Byte) (f : Request → Request) :
    (s.updateRequest tag f).resetHeld =
      s.resetHeld := rfl
@[simp] theorem State.updateRequest_now (tag : Byte) (f : Request → Request) :
    (s.updateRequest tag f).now =
      s.now := rfl
@[simp] theorem State.updateRequest_ctrl (tag : Byte) (f : Request → Request) :
    (s.updateRequest tag f).ctrl =
      s.ctrl := rfl
@[simp] theorem State.updateRequest_bus (tag : Byte) (f : Request → Request) :
    (s.updateRequest tag f).bus =
      s.bus := rfl
@[simp] theorem State.updateRequest_table (tag : Byte) (f : Request → Request) :
    (s.updateRequest tag f).table =
      s.table := rfl
@[simp] theorem State.updateRequest_roster (tag : Byte) (f : Request → Request) :
    (s.updateRequest tag f).roster =
      s.roster := rfl
@[simp] theorem State.updateRequest_stop (tag : Byte) (f : Request → Request) :
    (s.updateRequest tag f).stop =
      s.stop := rfl
@[simp] theorem State.updateRequest_req (tag : Byte) (f : Request → Request) :
    (s.updateRequest tag f).req =
      { s.req with list := s.req.list.map (fun r => if r.tag = tag then f r else r) } := rfl
@[simp] theorem State.updateRequest_out (tag : Byte) (f : Request → Request) :
    (s.updateRequest tag f).out =
      s.out := rfl
@[simp] theorem State.updateRequest_log (tag : Byte) (f : Request → Request) :
    (s.updateRequest tag f).log =
      s.log := rfl
@[simp] theorem State.updateRequest_port (tag : Byte) (f : Request → Request) :
    (s.updateRequest tag f).port =
      s.port := rfl
@[simp] theorem State.updateRequest_choices (tag : Byte) (f : Request → Request) :
    (s.updateRequest tag f).choices =
      s.choices := rfl
@[simp] theorem State.updateRequest_pending (tag : Byte) (f : Request → Request) :
    (s.updateRequest tag f).pending =
      s.pending := rfl

@[simp] theorem State.setChannel_resetHeld (c : Channel) (e : Option ChannelEntry) :
    (s.setChannel c e).resetHeld =
      s.resetHeld := rfl
@[simp] theorem State.setChannel_now (c : Channel) (e : Option ChannelEntry) :
    (s.setChannel c e).now =
      s.now := rfl
@[simp] theorem State.setChannel_ctrl (c : Channel) (e : Option ChannelEntry) :
    (s.setChannel c e).ctrl =
      s.ctrl := rfl
@[simp] theorem State.setChannel_bus (c : Channel) (e : Option ChannelEntry) :
    (s.setChannel c e).bus =
      s.bus := rfl
@[simp] theorem State.setChannel_table (c : Channel) (e : Option ChannelEntry) :
    (s.setChannel c e).table =
      s.table := rfl
@[simp] theorem State.setChannel_roster (c : Channel) (e : Option ChannelEntry) :
    (s.setChannel c e).roster =
      s.roster := rfl
@[simp] theorem State.setChannel_stop (c : Channel) (e : Option ChannelEntry) :
    (s.setChannel c e).stop =
      s.stop := rfl
@[simp] theorem State.setChannel_req (c : Channel) (e : Option ChannelEntry) :
    (s.setChannel c e).req =
      s.req := rfl
@[simp] theorem State.setChannel_out (c : Channel) (e : Option ChannelEntry) :
    (s.setChannel c e).out =
      s.out.set c.toNat e c.isLt := rfl
@[simp] theorem State.setChannel_log (c : Channel) (e : Option ChannelEntry) :
    (s.setChannel c e).log =
      s.log := rfl
@[simp] theorem State.setChannel_port (c : Channel) (e : Option ChannelEntry) :
    (s.setChannel c e).port =
      s.port := rfl
@[simp] theorem State.setChannel_choices (c : Channel) (e : Option ChannelEntry) :
    (s.setChannel c e).choices =
      s.choices := rfl
@[simp] theorem State.setChannel_pending (c : Channel) (e : Option ChannelEntry) :
    (s.setChannel c e).pending =
      s.pending := rfl

@[simp] theorem State.requestPulse_resetHeld (c : PulseClass) :
    (s.requestPulse c).resetHeld =
      s.resetHeld := rfl
@[simp] theorem State.requestPulse_now (c : PulseClass) : (s.requestPulse c).now = s.now := rfl
@[simp] theorem State.requestPulse_ctrl (c : PulseClass) : (s.requestPulse c).ctrl = s.ctrl := rfl
@[simp] theorem State.requestPulse_bus (c : PulseClass) : (s.requestPulse c).bus = s.bus := rfl
@[simp] theorem State.requestPulse_table (c : PulseClass) :
    (s.requestPulse c).table =
      s.table := rfl
@[simp] theorem State.requestPulse_roster (c : PulseClass) :
    (s.requestPulse c).roster =
      s.roster := rfl
@[simp] theorem State.requestPulse_stop (c : PulseClass) :
    (s.requestPulse c).stop =
      { s.stop with drive := requestDrive s.stop.drive c s.now } := rfl
@[simp] theorem State.requestPulse_req (c : PulseClass) : (s.requestPulse c).req = s.req := rfl
@[simp] theorem State.requestPulse_out (c : PulseClass) : (s.requestPulse c).out = s.out := rfl
@[simp] theorem State.requestPulse_log (c : PulseClass) : (s.requestPulse c).log = s.log := rfl
@[simp] theorem State.requestPulse_port (c : PulseClass) : (s.requestPulse c).port = s.port := rfl
@[simp] theorem State.requestPulse_choices (c : PulseClass) :
    (s.requestPulse c).choices =
      s.choices := rfl
@[simp] theorem State.requestPulse_pending (c : PulseClass) :
    (s.requestPulse c).pending =
      s.pending := rfl

@[simp] theorem State.recordDetection_resetHeld (d : Detection) :
    (s.recordDetection d).resetHeld =
      s.resetHeld := rfl
@[simp] theorem State.recordDetection_now (d : Detection) : (s.recordDetection d).now = s.now := rfl
@[simp] theorem State.recordDetection_ctrl (d : Detection) :
    (s.recordDetection d).ctrl =
      s.ctrl := rfl
@[simp] theorem State.recordDetection_bus (d : Detection) : (s.recordDetection d).bus = s.bus := rfl
@[simp] theorem State.recordDetection_table (d : Detection) :
    (s.recordDetection d).table =
      s.table := rfl
@[simp] theorem State.recordDetection_roster (d : Detection) :
    (s.recordDetection d).roster =
      s.roster := rfl
@[simp] theorem State.recordDetection_stop (d : Detection) :
    (s.recordDetection d).stop =
      s.stop := rfl
@[simp] theorem State.recordDetection_req (d : Detection) : (s.recordDetection d).req = s.req := rfl
@[simp] theorem State.recordDetection_out (d : Detection) : (s.recordDetection d).out = s.out := rfl
@[simp] theorem State.recordDetection_port (d : Detection) :
    (s.recordDetection d).port =
      s.port := rfl
@[simp] theorem State.recordDetection_choices (d : Detection) :
    (s.recordDetection d).choices =
      s.choices := rfl
@[simp] theorem State.recordDetection_pending (d : Detection) :
    (s.recordDetection d).pending =
      s.pending := rfl

@[simp] theorem State.settle_resetHeld (tags : List Byte) (d : Request → Disposition) :
    (s.settle tags d).resetHeld =
      s.resetHeld := rfl
@[simp] theorem State.settle_now (tags : List Byte) (d : Request → Disposition) :
    (s.settle tags d).now =
      s.now := rfl
@[simp] theorem State.settle_ctrl (tags : List Byte) (d : Request → Disposition) :
    (s.settle tags d).ctrl =
      s.ctrl := rfl
@[simp] theorem State.settle_bus (tags : List Byte) (d : Request → Disposition) :
    (s.settle tags d).bus =
      s.bus := rfl
@[simp] theorem State.settle_roster (tags : List Byte) (d : Request → Disposition) :
    (s.settle tags d).roster =
      s.roster := rfl
@[simp] theorem State.settle_stop (tags : List Byte) (d : Request → Disposition) :
    (s.settle tags d).stop =
      s.stop := rfl
@[simp] theorem State.settle_out (tags : List Byte) (d : Request → Disposition) :
    (s.settle tags d).out =
      s.out := rfl
@[simp] theorem State.settle_log (tags : List Byte) (d : Request → Disposition) :
    (s.settle tags d).log =
      s.log := rfl
@[simp] theorem State.settle_choices (tags : List Byte) (d : Request → Disposition) :
    (s.settle tags d).choices =
      s.choices := rfl
@[simp] theorem State.settle_pending (tags : List Byte) (d : Request → Disposition) :
    (s.settle tags d).pending =
      s.pending := rfl

@[simp] theorem State.leaveRequest_resetHeld (tag : Byte) (o : ResultOutcome) (why : Reason) :
    (s.leaveRequest tag o why).resetHeld =
      s.resetHeld := rfl
@[simp] theorem State.leaveRequest_now (tag : Byte) (o : ResultOutcome) (why : Reason) :
    (s.leaveRequest tag o why).now =
      s.now := rfl
@[simp] theorem State.leaveRequest_ctrl (tag : Byte) (o : ResultOutcome) (why : Reason) :
    (s.leaveRequest tag o why).ctrl =
      s.ctrl := rfl
@[simp] theorem State.leaveRequest_bus (tag : Byte) (o : ResultOutcome) (why : Reason) :
    (s.leaveRequest tag o why).bus =
      s.bus := rfl
@[simp] theorem State.leaveRequest_roster (tag : Byte) (o : ResultOutcome) (why : Reason) :
    (s.leaveRequest tag o why).roster =
      s.roster := rfl
@[simp] theorem State.leaveRequest_stop (tag : Byte) (o : ResultOutcome) (why : Reason) :
    (s.leaveRequest tag o why).stop =
      s.stop := rfl
@[simp] theorem State.leaveRequest_out (tag : Byte) (o : ResultOutcome) (why : Reason) :
    (s.leaveRequest tag o why).out =
      s.out := rfl
@[simp] theorem State.leaveRequest_log (tag : Byte) (o : ResultOutcome) (why : Reason) :
    (s.leaveRequest tag o why).log =
      s.log := rfl
@[simp] theorem State.leaveRequest_choices (tag : Byte) (o : ResultOutcome) (why : Reason) :
    (s.leaveRequest tag o why).choices =
      s.choices := rfl
@[simp] theorem State.leaveRequest_pending (tag : Byte) (o : ResultOutcome) (why : Reason) :
    (s.leaveRequest tag o why).pending =
      s.pending := rfl

@[simp] theorem State.offBus_resetHeld : s.offBus.resetHeld = s.resetHeld := rfl
@[simp] theorem State.offBus_now : s.offBus.now = s.now := rfl
@[simp] theorem State.offBus_ctrl :
    s.offBus.ctrl =
      { s.ctrl with joinEnd := none, remembered := none, joinOwed := false, moveWaits := false } := rfl
@[simp] theorem State.offBus_bus :
    s.offBus.bus =
      { s.bus with receive := .unsynchronised 0, transmit := .quiet, defer := false } := rfl
@[simp] theorem State.offBus_table : s.offBus.table = [] := rfl
@[simp] theorem State.offBus_roster : s.offBus.roster = s.roster := rfl
@[simp] theorem State.offBus_stop : s.offBus.stop = s.stop.unobserved := rfl
@[simp] theorem State.offBus_req :
    s.offBus.req =
      { s.req with claimSlot := none, cancelSlots := [], joinSlot := false } := rfl
@[simp] theorem State.offBus_out : s.offBus.out = s.out := rfl
@[simp] theorem State.offBus_log : s.offBus.log = s.log := rfl
@[simp] theorem State.offBus_port : s.offBus.port = s.port := rfl
@[simp] theorem State.offBus_choices : s.offBus.choices = s.choices := rfl
@[simp] theorem State.offBus_pending : s.offBus.pending = s.pending := rfl

@[simp] theorem State.enterOffline_resetHeld : s.enterOffline.resetHeld = s.resetHeld := rfl
@[simp] theorem State.enterOffline_now : s.enterOffline.now = s.now := rfl
@[simp] theorem State.enterOffline_table : s.enterOffline.table = [] := rfl
@[simp] theorem State.enterOffline_roster : s.enterOffline.roster = clearedRoster := rfl
@[simp] theorem State.enterOffline_stop : s.enterOffline.stop = s.stop.unobserved := rfl
@[simp] theorem State.enterOffline_out : s.enterOffline.out = idleChannels := rfl
@[simp] theorem State.enterOffline_log :
    s.enterOffline.log =
      { s.log with flags := s.log.flags.set .state } := rfl
@[simp] theorem State.enterOffline_choices : s.enterOffline.choices = s.choices := rfl
@[simp] theorem State.enterOffline_pending : s.enterOffline.pending = s.pending := rfl

@[simp] theorem State.enterConfigFault_resetHeld : s.enterConfigFault.resetHeld = s.resetHeld := rfl
@[simp] theorem State.enterConfigFault_now : s.enterConfigFault.now = s.now := rfl
@[simp] theorem State.enterConfigFault_table : s.enterConfigFault.table = [] := rfl
@[simp] theorem State.enterConfigFault_roster : s.enterConfigFault.roster = clearedRoster := rfl
@[simp] theorem State.enterConfigFault_stop : s.enterConfigFault.stop = s.stop.unobserved := rfl
@[simp] theorem State.enterConfigFault_out : s.enterConfigFault.out = idleChannels := rfl
@[simp] theorem State.enterConfigFault_log :
    s.enterConfigFault.log =
      { s.log with flags := s.log.flags.set .state } := rfl
@[simp] theorem State.enterConfigFault_choices : s.enterConfigFault.choices = s.choices := rfl
@[simp] theorem State.enterConfigFault_pending : s.enterConfigFault.pending = s.pending := rfl

@[simp] theorem State.enterSilent_resetHeld : s.enterSilent.resetHeld = s.resetHeld := rfl
@[simp] theorem State.enterSilent_now : s.enterSilent.now = s.now := rfl
@[simp] theorem State.enterSilent_table : s.enterSilent.table = [] := rfl
@[simp] theorem State.enterSilent_roster : s.enterSilent.roster = unsyncRoster s.roster := rfl
@[simp] theorem State.enterSilent_stop : s.enterSilent.stop = s.stop.unobserved := rfl
@[simp] theorem State.enterSilent_out : s.enterSilent.out = s.out := rfl
@[simp] theorem State.enterSilent_log :
    s.enterSilent.log =
      { s.log with flags := s.log.flags.set .state } := rfl
@[simp] theorem State.enterSilent_choices : s.enterSilent.choices = s.choices := rfl
@[simp] theorem State.enterSilent_pending : s.enterSilent.pending = s.pending := rfl

@[simp] theorem State.enterActive_resetHeld : s.enterActive.resetHeld = s.resetHeld := rfl
@[simp] theorem State.enterActive_now : s.enterActive.now = s.now := rfl
@[simp] theorem State.enterActive_ctrl :
    s.enterActive.ctrl =
      { s.ctrl with station := .active, joinEnd := none, joinOwed := false, moveWaits := false } := rfl
@[simp] theorem State.enterActive_bus : s.enterActive.bus = s.bus := rfl
@[simp] theorem State.enterActive_table : s.enterActive.table = s.table := rfl
@[simp] theorem State.enterActive_roster : s.enterActive.roster = s.roster := rfl
@[simp] theorem State.enterActive_stop : s.enterActive.stop = s.stop := rfl
@[simp] theorem State.enterActive_req : s.enterActive.req = { s.req with joinSlot := false } := rfl
@[simp] theorem State.enterActive_out : s.enterActive.out = s.out := rfl
@[simp] theorem State.enterActive_log :
    s.enterActive.log =
      { s.log with flags := s.log.flags.set .state } := rfl
@[simp] theorem State.enterActive_port : s.enterActive.port = s.port := rfl
@[simp] theorem State.enterActive_choices : s.enterActive.choices = s.choices := rfl
@[simp] theorem State.enterActive_pending : s.enterActive.pending = s.pending := rfl

@[simp] theorem State.useBoundary_resetHeld : s.useBoundary.resetHeld = s.resetHeld := rfl
@[simp] theorem State.useBoundary_now : s.useBoundary.now = s.now := rfl
@[simp] theorem State.useBoundary_ctrl : s.useBoundary.ctrl = s.ctrl := rfl
@[simp] theorem State.useBoundary_bus : s.useBoundary.bus = { s.bus with attempted := true } := rfl
@[simp] theorem State.useBoundary_table : s.useBoundary.table = s.table := rfl
@[simp] theorem State.useBoundary_roster : s.useBoundary.roster = s.roster := rfl
@[simp] theorem State.useBoundary_stop : s.useBoundary.stop = s.stop := rfl
@[simp] theorem State.useBoundary_req : s.useBoundary.req = s.req := rfl
@[simp] theorem State.useBoundary_out : s.useBoundary.out = s.out := rfl
@[simp] theorem State.useBoundary_log : s.useBoundary.log = s.log := rfl
@[simp] theorem State.useBoundary_port : s.useBoundary.port = s.port := rfl
@[simp] theorem State.useBoundary_choices : s.useBoundary.choices = s.choices := rfl
@[simp] theorem State.useBoundary_pending : s.useBoundary.pending = s.pending := rfl

@[simp] theorem State.clearDeferAt24_resetHeld : s.clearDeferAt24.resetHeld = s.resetHeld := rfl
@[simp] theorem State.clearDeferAt24_now : s.clearDeferAt24.now = s.now := rfl
@[simp] theorem State.clearDeferAt24_ctrl : s.clearDeferAt24.ctrl = s.ctrl := rfl
@[simp] theorem State.clearDeferAt24_bus :
    s.clearDeferAt24.bus =
      { s.bus with defer := s.bus.defer && !s.bus.receive.longIdle } := rfl
@[simp] theorem State.clearDeferAt24_table : s.clearDeferAt24.table = s.table := rfl
@[simp] theorem State.clearDeferAt24_roster : s.clearDeferAt24.roster = s.roster := rfl
@[simp] theorem State.clearDeferAt24_stop : s.clearDeferAt24.stop = s.stop := rfl
@[simp] theorem State.clearDeferAt24_req : s.clearDeferAt24.req = s.req := rfl
@[simp] theorem State.clearDeferAt24_out : s.clearDeferAt24.out = s.out := rfl
@[simp] theorem State.clearDeferAt24_log : s.clearDeferAt24.log = s.log := rfl
@[simp] theorem State.clearDeferAt24_port : s.clearDeferAt24.port = s.port := rfl
@[simp] theorem State.clearDeferAt24_choices : s.clearDeferAt24.choices = s.choices := rfl
@[simp] theorem State.clearDeferAt24_pending : s.clearDeferAt24.pending = s.pending := rfl

@[simp] theorem State.removePresented_resetHeld : s.removePresented.resetHeld = s.resetHeld := rfl
@[simp] theorem State.removePresented_now : s.removePresented.now = s.now := rfl
@[simp] theorem State.removePresented_ctrl : s.removePresented.ctrl = s.ctrl := rfl
@[simp] theorem State.removePresented_bus : s.removePresented.bus = s.bus := rfl
@[simp] theorem State.removePresented_table : s.removePresented.table = s.table := rfl
@[simp] theorem State.removePresented_roster : s.removePresented.roster = s.roster := rfl
@[simp] theorem State.removePresented_stop : s.removePresented.stop = s.stop := rfl
@[simp] theorem State.removePresented_req : s.removePresented.req = s.req := rfl
@[simp] theorem State.removePresented_out : s.removePresented.out = s.out := rfl
@[simp] theorem State.removePresented_log : s.removePresented.log = s.log := rfl
@[simp] theorem State.removePresented_port :
    s.removePresented.port =
      { s.port with results := s.port.results.drop 1, transaction := s.port.transaction.fetched, fetchEnding := false } := rfl
@[simp] theorem State.removePresented_choices : s.removePresented.choices = s.choices := rfl
@[simp] theorem State.removePresented_pending : s.removePresented.pending = s.pending := rfl

@[simp] theorem State.beginFrame_resetHeld (slot : SlotRef) (p : Payload) :
    (s.beginFrame slot p).resetHeld =
      s.resetHeld := rfl
@[simp] theorem State.beginFrame_now (slot : SlotRef) (p : Payload) :
    (s.beginFrame slot p).now =
      s.now := rfl
@[simp] theorem State.beginFrame_ctrl (slot : SlotRef) (p : Payload) :
    (s.beginFrame slot p).ctrl =
      s.ctrl := rfl
@[simp] theorem State.beginFrame_bus (slot : SlotRef) (p : Payload) :
    (s.beginFrame slot p).bus =
      { s.bus with transmit := .arbitrating ⟨s.frameWith p, slot⟩, receive := .inFrame [] } := rfl
@[simp] theorem State.beginFrame_table (slot : SlotRef) (p : Payload) :
    (s.beginFrame slot p).table =
      s.table := rfl
@[simp] theorem State.beginFrame_roster (slot : SlotRef) (p : Payload) :
    (s.beginFrame slot p).roster =
      s.roster := rfl
@[simp] theorem State.beginFrame_stop (slot : SlotRef) (p : Payload) :
    (s.beginFrame slot p).stop =
      s.stop := rfl
@[simp] theorem State.beginFrame_req (slot : SlotRef) (p : Payload) :
    (s.beginFrame slot p).req =
      s.req := rfl
@[simp] theorem State.beginFrame_out (slot : SlotRef) (p : Payload) :
    (s.beginFrame slot p).out =
      s.out := rfl
@[simp] theorem State.beginFrame_log (slot : SlotRef) (p : Payload) :
    (s.beginFrame slot p).log =
      s.log := rfl
@[simp] theorem State.beginFrame_port (slot : SlotRef) (p : Payload) :
    (s.beginFrame slot p).port =
      s.port := rfl
@[simp] theorem State.beginFrame_choices (slot : SlotRef) (p : Payload) :
    (s.beginFrame slot p).choices =
      s.choices := rfl
@[simp] theorem State.beginFrame_pending (slot : SlotRef) (p : Payload) :
    (s.beginFrame slot p).pending =
      s.pending := rfl

@[simp] theorem State.placeCancel_resetHeld (r : Request) :
    (s.placeCancel r).resetHeld =
      s.resetHeld := rfl
@[simp] theorem State.placeCancel_now (r : Request) : (s.placeCancel r).now = s.now := rfl
@[simp] theorem State.placeCancel_ctrl (r : Request) : (s.placeCancel r).ctrl = s.ctrl := rfl
@[simp] theorem State.placeCancel_bus (r : Request) : (s.placeCancel r).bus = s.bus := rfl
@[simp] theorem State.placeCancel_table (r : Request) : (s.placeCancel r).table = s.table := rfl
@[simp] theorem State.placeCancel_roster (r : Request) : (s.placeCancel r).roster = s.roster := rfl
@[simp] theorem State.placeCancel_stop (r : Request) : (s.placeCancel r).stop = s.stop := rfl
@[simp] theorem State.placeCancel_req (r : Request) :
    (s.placeCancel r).req =
      { s.req with cancelSlots := s.req.cancelSlots ++ [⟨r.claimSeq.getD 0, r.tag, r.start.any (fun t => reached t s.now)⟩] } := rfl
@[simp] theorem State.placeCancel_out (r : Request) : (s.placeCancel r).out = s.out := rfl
@[simp] theorem State.placeCancel_log (r : Request) : (s.placeCancel r).log = s.log := rfl
@[simp] theorem State.placeCancel_port (r : Request) : (s.placeCancel r).port = s.port := rfl
@[simp] theorem State.placeCancel_choices (r : Request) :
    (s.placeCancel r).choices =
      s.choices := rfl
@[simp] theorem State.placeCancel_pending (r : Request) :
    (s.placeCancel r).pending =
      s.pending := rfl

@[simp] theorem State.tick_resetHeld : s.tick.resetHeld = s.resetHeld := rfl
@[simp] theorem State.tick_now : s.tick.now = if s.resetHeld then s.now else s.now + 1 := rfl
@[simp] theorem State.tick_ctrl : s.tick.ctrl = s.ctrl := rfl
@[simp] theorem State.tick_bus : s.tick.bus = s.bus.tick s.ctrl.station.receiving := rfl
@[simp] theorem State.tick_table : s.tick.table = s.table := rfl
@[simp] theorem State.tick_roster : s.tick.roster = s.roster := rfl
@[simp] theorem State.tick_stop : s.tick.stop = s.stop.tick := rfl
@[simp] theorem State.tick_req : s.tick.req = s.req := rfl
@[simp] theorem State.tick_out : s.tick.out = s.out := rfl
@[simp] theorem State.tick_log : s.tick.log = s.log := rfl
@[simp] theorem State.tick_port : s.tick.port = s.port.tick s.resetHeld := rfl
@[simp] theorem State.tick_choices : s.tick.choices = s.choices := rfl
@[simp] theorem State.tick_pending : s.tick.pending = s.pending := rfl

end Sys2Proof.Machine
end

