-- ==== Sys2Proof/Safety.lean ====
section
/-!
DEFINITION. What counts as a safe step, and the invariants of the station: what the manual says of every
state a run reaches. The statements about every step take them as premises, or state that a step keeps
them.
-/

namespace Sys2Proof.Machine

/-- The step answers a next state. -/
def goesOn (s : State) : Prop := ∃ t, step s = .next t

/-! ### While the reset is held (R81) -/

/-- While RESET_N is held low the station holds the values of R81 and nothing of it moves. -/
def heldInv (s : State) : Prop := s.resetHeld = true → s.held = s

/-! ### The station state and what it permits (R78, R79) -/

/-- The items the Station Controller holds go with the station state (R78), and no IDENTITY waits for its drive
start in OFFLINE (R69, R100). -/
def controllerInv (s : State) : Prop :=
  (s.ctrl.remembered.isSome ↔ s.ctrl.station = .quiesce)
  ∧ (s.ctrl.joinEnd.isSome ↔ s.ctrl.station = .listening ∨ s.ctrl.remembered = some .listening)
  ∧ (s.ctrl.station.receiving = false → s.ctrl.joinOwed = false ∧ s.ctrl.moveWaits = false)
  ∧ (s.ctrl.identityOwed = true → s.ctrl.station ≠ .offline)

/-- A configuration in force has been validated, and its digest is held outside OFFLINE (R4, R6, R8). -/
def configInv (s : State) : Prop :=
  (s.port.digest.isSome ↔ s.ctrl.station ≠ .offline)
  ∧ (s.ctrl.station ≠ .offline → s.port.image.any validImage = true)

/-- In the states that do not receive, LINK is released and nothing is decoded, STOP_N is not observed, the
table and the outgoing slots are empty (R44, R45, R53, R79, R102; 08, 8.7). -/
def withdrawnInv (s : State) : Prop :=
  s.ctrl.station.receiving = false →
    s.bus.receive = .unsynchronised 0 ∧ s.bus.transmit = .quiet ∧ s.bus.defer = false
      ∧ s.stop = s.stop.unobserved ∧ s.table = []
      ∧ s.req.claimSlot = none ∧ s.req.cancelSlots = [] ∧ s.req.joinSlot = false

/-- What each withdrawn state leaves of requests and outputs (R79, R146, R147, R148, R162). -/
def requestsByStateInv (s : State) : Prop :=
  (s.ctrl.station = .offline ∨ s.ctrl.station = .configFault → s.req.list = [] ∧ s.out = idleChannels)
  ∧ (s.ctrl.station = .silent → ∀ r ∈ s.req.list, r.state = .firing)

/-- The kind of frame on LINK is one the station state permits, and the station decodes its own frame as it
sends it (R44, R47). -/
def sendingInv (s : State) : Prop :=
  ∀ x, s.bus.transmit.frame = some x →
    (∃ cells, s.bus.receive = .inFrame cells)
    ∧ s.ctrl.station = (if x.slot = .join then .listening else .active)

/-- The line reads LOW only in QUIESCE, the fall tick is present while it does, and a quiesce end is held
only in QUIESCE (R87, R101, R102, R106). -/
def monitorInv (s : State) : Prop :=
  (s.stop.lineLow = true → s.ctrl.station = .quiesce)
  ∧ (s.stop.fallTick.isSome ↔ s.stop.lineLow = true)
  ∧ (s.stop.quiesceEnd.isSome → s.ctrl.station = .quiesce)

/-- No record is PENDING in QUIESCE (R28, R79). -/
def quiesceInv (s : State) : Prop :=
  s.ctrl.station = .quiesce → ∀ x ∈ s.table, x.state = .confirmed

/-- The station as a whole agrees with its state. -/
def stationInv (s : State) : Prop :=
  controllerInv s ∧ configInv s ∧ withdrawnInv s ∧ requestsByStateInv s ∧ sendingInv s ∧ monitorInv s
    ∧ quiesceInv s

/-! ### Requests (R127 to R135, R145) -/

/-- The bounds of the request list, the result queue and the CANCEL slots: at most 8 requests, at most 16
with the queued results, distinct tags that are not 0, at most one request in negotiation, at most three
completed claim frames, at most two CANCEL frames (R127, R130, R132, R135, R145). -/
def requestInv (s : State) : Prop :=
  s.req.list.length ≤ 8
  ∧ s.req.list.length + s.port.results.length ≤ 16
  ∧ (s.req.list.map Request.tag).Nodup
  ∧ (∀ r ∈ s.req.list, r.tag ≠ 0)
  ∧ (s.req.list.filter Request.negotiating).length ≤ 1
  ∧ (∀ r ∈ s.req.list, r.attempts ≤ 3 ∧ (r.state = .waiting ∨ r.state = .sending → r.attempts ≤ 2))
  ∧ s.req.cancelSlots.length ≤ 2

/-- The outgoing slots go with the requests: the claim in the CLAIM slot is that of the one SENDING
request, a CANCEL frame is that of a cancelled request, a marked request is on the bus or CANCELLING, the
frame on the bus stands in its slot, and a CANCEL frame placed at a start tick waits for that start in its slot
(R132, R142, R145, R150). -/
def slotInv (s : State) : Prop :=
  (∀ r ∈ s.req.list, r.state = .sending → s.req.claimSlot = some r.tag)
  ∧ (∀ g, s.req.claimSlot = some g → ∃ r ∈ s.req.list, r.tag = g ∧ r.state = .sending)
  ∧ (∀ c ∈ s.req.cancelSlots, ∃ r ∈ s.req.list, r.tag = c.tag
      ∧ (r.state = .cancelling ∨ r.state = .sending ∧ r.mark = true))
  ∧ (∀ r ∈ s.req.list, r.mark = true →
      r.state = .cancelling ∨ r.state = .sending ∧ s.onBus (.claim r.tag) = true)
  ∧ (∀ x, s.bus.transmit.frame = some x → match x.slot with
      | .claim g => s.req.claimSlot = some g
      | .cancel g => ∃ c ∈ s.req.cancelSlots, c.tag = g
      | .join => s.req.joinSlot = true)
  ∧ (∀ c ∈ s.req.cancelSlots, c.late = true → s.onBus (.cancel c.tag) = false
      ∧ ∃ r ∈ s.req.list, r.tag = c.tag ∧ r.state = .cancelling
        ∧ ∃ t, r.start = some t ∧ reached t s.now = true)

/-! ### Requests and their records (R33, R34, R131, R136, R140, R144) -/

/-- The record stands for the request: its tag, class, claim sequence and start tick, and a state that goes
with the request's (R24, R28, R33, R136). -/
def standsFor (x : ClaimRecord) (r : Request) : Prop :=
  x.tag = some r.tag ∧ x.cls = r.cls ∧ r.claimSeq = some x.seq ∧ r.start = some x.start
  ∧ match r.state with
    | .waiting | .sending => False
    | .pending => x.state = .pending
    | .granted | .firing => x.state = .confirmed
    | .cancelling => True

/-- The request's claim stands in the station's own table: it is GRANTED, CANCELLING, or PENDING with a start
tick (R136, R144). -/
def announced (r : Request) : Prop :=
  r.state = .granted ∨ r.state = .cancelling ∨ r.state = .pending ∧ r.start ≠ none

/-- Each own record that carries a tag stands for the listed request of that tag, and each announced request
has its record (R33, R34, R131, R136). A request that is not announced yet holds no start tick (R127), its
class is enabled (R129), and a CANCEL frame in a slot names the claim of its request (R142). -/
def tieInv (s : State) : Prop :=
  (∀ x ∈ s.table, x.owner = s.ownId → ∀ g, x.tag = some g → ∃ r ∈ s.req.list, r.tag = g ∧ standsFor x r)
  ∧ (∀ r ∈ s.req.list, announced r → ∃ x ∈ s.table, x.owner = s.ownId ∧ x.tag = some r.tag)
  ∧ (∀ r ∈ s.req.list, r.state = .waiting ∨ r.state = .sending → r.start = none)
  ∧ (∀ r ∈ s.req.list, (s.classOf r.cls).enabled = true)
  ∧ (∀ c ∈ s.req.cancelSlots, ∀ r ∈ s.req.list, r.tag = c.tag → r.claimSeq = some c.target)

/-- The start tick of a GRANTED request is not passed, that of a CANCELLING one is passed only while its
CANCEL frame is on LINK, and that of a FIRING one is reached and its pulse is not past its end (R140, R144,
R154). -/
def startInv (s : State) : Prop :=
  ∀ r ∈ s.req.list, ∀ t, r.start = some t →
    (r.state = .granted → 0 ≤ tickDiff t s.now)
    ∧ (r.state = .cancelling → 0 ≤ tickDiff t s.now
        ∨ s.onBus (.cancel r.tag) = true
          ∧ ∃ cells, s.bus.receive = .inFrame cells ∧ tickDiff s.now t ≤ cells.length)
    ∧ (r.state = .firing → 0 ≤ tickDiff s.now t ∧ tickDiff s.now t ≤ (s.classOf r.cls).duration)

/-! ### Outputs (R15, R153 to R157) -/

/-- A stretch of `d` ticks from `t` ends before one of `e` ticks from `u` begins, or the other way round. -/
def apart (t : Tick) (d : Nat) (u : Tick) (e : Nat) : Prop :=
  (d : Int) ≤ tickDiff u t ∨ tickDiff u t ≤ -(e : Int)

/-- The channel is free for a stretch from `t` of class `cls`: of every own record on that channel, and of
the pulse that the channel holds (R15). -/
def channelFree (s : State) (cls : ClassNo) (t : Tick) : Prop :=
  (∀ x ∈ s.table, x.owner = s.ownId → s.channelOf x.cls = s.channelOf cls →
    apart t (s.classOf cls).duration x.start (s.classOf x.cls).duration)
  ∧ ∀ e, s.channel (s.channelOf cls) = some e → tickDiff e.endTick s.now ≤ tickDiff t s.now

/-- On one channel, no two own records' pulses overlap, and no own record's pulse overlaps the pulse of a
FIRING request other than its own (R15, R154). -/
def channelInv (s : State) : Prop :=
  s.table.Pairwise (fun x y => x.owner = s.ownId → y.owner = s.ownId →
    s.channelOf x.cls = s.channelOf y.cls →
    apart x.start (s.classOf x.cls).duration y.start (s.classOf y.cls).duration)
  ∧ ∀ r ∈ s.req.list, r.state = .firing → ∀ t, r.start = some t →
      ∀ x ∈ s.table, x.owner = s.ownId → x.tag ≠ some r.tag → s.channelOf x.cls = s.channelOf r.cls →
        apart t (s.classOf r.cls).duration x.start (s.classOf x.cls).duration

/-- The channel entry of a FIRING request: its tag, and its start tick plus its class duration (R153). -/
def entryOf (s : State) (r : Request) (t : Tick) : ChannelEntry :=
  ⟨r.tag, plus t (s.classOf r.cls).duration⟩

/-- The busy channels are those of the FIRING requests: each FIRING request has its channel's entry, and
each entry is that of one FIRING request, so no channel is driven by two claims (R140, R153, R154). -/
def outputInv (s : State) : Prop :=
  (∀ r ∈ s.req.list, r.state = .firing →
    ∃ t, r.start = some t ∧ s.channel (s.channelOf r.cls) = some (entryOf s r t))
  ∧ (∀ c e, s.channel c = some e →
    ∃ r ∈ s.req.list, r.state = .firing ∧ s.channelOf r.cls = c
      ∧ ∃ t, r.start = some t ∧ e = entryOf s r t)

/-! ### The own frame on LINK (R44, R49, R133) -/

/-- What the own frame on LINK carries goes with its slot; the start tick of a CLAIM, `left` ticks before its
frame end, lies within the offset limits of R9 and finds its channel free (R15, R16, R49, R133, R142). -/
def carries (s : State) (x : Sending) (left : Nat) : Prop :=
  match x.slot with
  | .claim g => ∃ r ∈ s.req.list, r.tag = g ∧ r.claimSeq = some x.frame.seq
      ∧ ∃ group weight offset, x.frame.payload = .claim r.cls group weight offset
        ∧ s.params.minLead ≤ offset.toNat ∧ offset.toNat ≤ s.params.dMax
        ∧ channelFree s r.cls (s.now + BitVec.ofNat 32 (left + offset.toNat))
  | .cancel g => ∃ c ∈ s.req.cancelSlots, c.tag = g ∧ x.frame.payload = .cancel c.target
  | .join => ∃ group, x.frame.payload = .join group

/-- The own frame on LINK bears this station's id and sequence number, every cell but the last has been read
back as sent, arbitration is not past its field, and the payload goes with the slot (R44, R49, R50, R52). -/
def flightInv (s : State) : Prop :=
  ∀ x cells, s.bus.transmit.frame = some x → s.bus.receive = .inFrame cells →
    x.frame.id = s.ownId ∧ x.frame.seq = s.bus.ownSeq
    ∧ cells.length ≤ x.frame.cells.length
    ∧ cells.dropLast = x.frame.cells.take (cells.length - 1)
    ∧ (s.bus.transmit = .arbitrating x → cells.length ≤ arbitrationCells)
    ∧ carries s x (x.frame.cells.length - cells.length)

/-! ### The claim table (R3, R20, R21, R28) -/

/-- The record's start lies in the `len` ticks from `u` on. -/
def startsWithin (u : Tick) (len : Nat) (x : ClaimRecord) : Bool := (x.start - u).toNat < len

/-- The two records keep the spacing of a receiver's check: S_short + G, and S_long + G within a group
(R11, R21). -/
def spaced (p : Params) (x y : ClaimRecord) : Prop :=
  p.sShort + p.G ≤ distance x.start y.start
    ∧ (x.group = y.group → p.sLong + p.G ≤ distance x.start y.start)

/-- The limits of R21: at most 48 records, no two of one owner and claim sequence, spacing between any two,
and the budget in every stretch of W + G ticks. -/
def tableInv (s : State) : Prop :=
  s.table.length ≤ 48
  ∧ s.table.Pairwise (fun x y => ¬(x.owner = y.owner ∧ x.seq = y.seq))
  ∧ s.table.Pairwise (spaced s.params)
  ∧ ∀ u : Tick, ((s.table.filter (startsWithin u (s.params.W + s.params.G))).map
      (fun x => x.weight.toNat)).sum ≤ s.params.B

/-- The records stand in ascending order of start tick, none is past its retire point, and none starts
later than Dmax from now (R5, R20, R29). -/
def orderInv (s : State) : Prop :=
  s.table.Pairwise (fun x y => later y.start x.start = true)
  ∧ ∀ x ∈ s.table, -(s.params.retireSpan : Int) ≤ tickDiff x.start s.now
      ∧ tickDiff x.start s.now ≤ s.params.dMax

/-- A record starts between H + 2G and Dmax after its received tick, which has come, and a PENDING one is not
past its hold expiry (R3, R9, R28). -/
def recordInv (s : State) : Prop :=
  ∀ x ∈ s.table,
    ((s.params.minLead : Int) ≤ tickDiff x.start x.received
      ∧ tickDiff x.start x.received ≤ s.params.dMax)
    ∧ 0 ≤ tickDiff s.now x.received
    ∧ (x.state = .pending → tickDiff s.now x.received ≤ s.params.pendingSpan)

/-! ### The drive of STOP_N (R98) -/

/-- A drive lasts 24 or 96 ticks from its start, which was at most two ticks ahead; the line is pulled by the
driver from the start on and not before, and no drive is past its end (R98). -/
def driveInv (s : State) : Prop :=
  ∀ c start finish pulling, s.stop.drive = .driving c start finish pulling →
    finish = plus start c.ticks ∧ tickDiff start s.now ≤ 2 ∧ tickDiff s.now finish ≤ 0
    ∧ (pulling = true → 0 ≤ tickDiff s.now start) ∧ (pulling = false → tickDiff s.now start ≤ 0)

/-! ### All together -/

/-- Everything the manual says of the station's run states together. -/
def runInv (s : State) : Prop :=
  heldInv s ∧ stationInv s ∧ requestInv s ∧ slotInv s ∧ tieInv s ∧ startInv s ∧ flightInv s ∧ outputInv s
    ∧ channelInv s ∧ tableInv s ∧ orderInv s ∧ recordInv s ∧ driveInv s

end Sys2Proof.Machine
end

