-- ==== Sys2Proof/Certificates/Slice0/Obligations.lean ====
section
/-!
DEFINITION. The statements for the provers, one definition each, from the numbered rules of spec/. A
statement of what a command does is an equation for `exec`: the command answers a next state, and the
state on the right is the old one with the fields the rules change written out, so that everything it
does not name is unchanged.
-/

/-! ### The words the statements use -/

namespace Sys2Proof.Said

open Sys2Proof Sys2Proof.Machine

/-- The station takes the commands of the local port: RESET_N is high, and no transaction that a reset found
in progress is still under way (R167). -/
abbrev portOpen (s : State) : Prop := s.resetHeld = false ∧ s.port.transaction ≠ .discarded

/-- No two listed requests share a tag (R127). -/
abbrev tagsDiffer (s : State) : Prop := (s.req.list.map Request.tag).Nodup

/-- A count of at most `top` one further (00_scope.md, "Saturating counts"). -/
def up (top n : Nat) : Nat := if n < top then n + 1 else n

/-- The station with a listed request gone and its result posted: its record detached, no outgoing slot
holding a frame of it, the result at the tail of the queue (R34, R131, R145). -/
def departed (s : State) (r : Request) (o : ResultOutcome) (why : Reason) (start : Option Tick) : State :=
  { s with
    table := s.table.map (fun x =>
      if x.owner = s.ownId ∧ x.tag = some r.tag then { x with tag := none } else x)
    req := { s.req with
      list := s.req.list.filter (fun q => decide (q.tag ≠ r.tag))
      claimSlot := if s.req.claimSlot = some r.tag then none else s.req.claimSlot
      cancelSlots := s.req.cancelSlots.filter (fun c => decide (c.tag ≠ r.tag)) }
    port := { s.port with results := s.port.results ++ [⟨r.tag, o, why, start, r.attempts⟩] } }

/-- The station with one listed request changed in its place. -/
def changed (s : State) (tag : Byte) (f : Request → Request) : State :=
  { s with req := { s.req with list := s.req.list.map (fun q => if q.tag = tag then f q else q) } }

/-- The station with a CANCEL frame for a request's claim in a free CANCEL slot, marked as late where the
request's start tick is reached (R142, R150, log 34). -/
def withCancel (s : State) (r : Request) : State :=
  { s with req := { s.req with
      cancelSlots := s.req.cancelSlots
        ++ [⟨r.claimSeq.getD 0, r.tag, r.start.any (fun t => decide (0 ≤ tickDiff s.now t))⟩] } }

/-- What an exit from the working states posts for a request; `why` is the reason the exit gives, and
`cut` says that a firing pulse is cut (R146, R148). -/
def exitResult (why : Reason) (r : Request) : ResultEntry :=
  match r.state with
  | .firing => ⟨r.tag, .aborted, .none, r.start, r.attempts⟩
  | .cancelling => ⟨r.tag, .cancelled, .none, none, r.attempts⟩
  | .waiting | .sending | .pending | .granted =>
    if r.mark then ⟨r.tag, .cancelled, .none, none, r.attempts⟩
    else ⟨r.tag, .voided, why, none, r.attempts⟩

/-- The Controller's items, the Bus Interface, the STOP Monitor's observation, the table and the slots as
every exit from the working states leaves them; the drive goes on (R45, R53, R57, R78, R95, R102). -/
def withdrawn (s : State) (st : StationState) : State :=
  { s with
    ctrl := { s.ctrl with station := st, joinEnd := none, remembered := none, joinOwed := false,
                          moveWaits := false }
    bus := { s.bus with receive := .unsynchronised 0, transmit := .quiet, defer := false }
    table := []
    stop := { s.stop with lineLow := false, fallTick := none, classification := .none,
                          quiesceEnd := none, busFaultRaised := false, lineTaken := false }
    req := { s.req with claimSlot := none, cancelSlots := [], joinSlot := false }
    log := { s.log with flags := { s.log.flags with state := true } } }

/-- The exit to OFFLINE or CONFIG_FAULT: every request ends, firing pulses are cut, the roster is cleared
(R89, R92, R93, R146, R148, R162). -/
def fallenOut (s : State) (st : StationState) (why : Reason) : State :=
  { withdrawn s st with
    ctrl := { (withdrawn s st).ctrl with identityOwed := false }
    roster := Vector.replicate 32 ⟨false, none, none, none⟩
    req := { list := [], claimSlot := none, cancelSlots := [], joinSlot := false }
    out := Vector.replicate 4 none
    port := { s.port with results := s.port.results ++ s.req.list.map (exitResult why) } }

/-- The entry to SILENT: the requests that have not begun to fire end, firing ones stay, the roster's
expectations become UNSYNCHRONISED (R90, R147, R161). -/
def silent (s : State) : State :=
  { withdrawn s .silent with
    roster := s.roster.map (fun e => { e with expectation := none })
    req := { list := s.req.list.filter (fun r => decide (r.state = .firing)), claimSlot := none,
             cancelSlots := [], joinSlot := false }
    port := { s.port with results := s.port.results
      ++ (s.req.list.filter (fun r => decide (r.state ≠ .firing))).map (exitResult .silent) } }

/-- What the Detection Log records of an own detection before it decides (R117, steps 1 to 3). -/
def recorded (s : State) (d : Detection) : State :=
  { s with log := { s.log with
      record := if s.log.record = none then some ⟨d, s.now, s.ctrl.station⟩ else s.log.record
      overrun := if s.log.record = none then s.log.overrun else up 255 s.log.overrun
      counters := { s.log.counters with own := up 65535 s.log.counters.own }
      flags := { s.log.flags with detect := true } } }

/-- A drive that begins two ticks from now and lasts 24 or 96 ticks (R98). -/
def freshDrive (now : Tick) : PulseClass → Drive
  | .short => .driving .short (now + 2) (now + 26) false
  | .long => .driving .long (now + 2) (now + 98) false

/-- The drive after a drive request (R98, R99). -/
def driveAfter (d : Drive) (c : PulseClass) (now : Tick) : Drive :=
  match d with
  | .released => freshDrive now c
  | .driving old start finish pulling =>
    if reached finish now then freshDrive now c
    else if old = .short ∧ c = .long then .driving .long start (start + 96) pulling
    else d

/-- The station with a drive request taken. -/
def driven (s : State) (c : PulseClass) : State :=
  { s with stop := { s.stop with drive := driveAfter s.stop.drive c s.now } }

/-- The header of a frame whose CRC passed (R62, R116). -/
def headerOf (f : Frame) : Header := ⟨f.id, f.kind, f.seq, true⟩

/-- A good frame has reached stage 7 with entry `e` written: counted, the entry of its sender rewritten
(R63, R68). -/
def heard (s : State) (id : StationId) (e : RosterEntry) : State :=
  { s with
    roster := s.roster.set id.toNat e id.isLt
    log := { s.log with counters := { s.log.counters with good := up 65535 s.log.counters.good } } }

/-- The receive side after a frame end: OUT OF FRAME with the idle count at zero (R46, R61). -/
def frameEnded (s : State) : State := { s with bus := { s.bus with receive := .outOfFrame 0 } }

/-- A frame from a peer has arrived whole: the station receives, sends nothing, and has decoded exactly the
cells of `f` (R61, R64). -/
abbrev arrived (s : State) (f : Frame) : Prop :=
  s.ctrl.station.receiving = true ∧ s.bus.transmit = .quiet ∧ s.bus.receive = .inFrame f.cells

/-- The frame is good and not this station's id (R63, R69). -/
abbrev goodFromPeer (s : State) (f : Frame) : Prop := s.port.digest = some f.digest ∧ f.id ≠ s.ownId

/-- The station has sent its own frame and read every cell back (R54). -/
abbrev sent (s : State) (f : Frame) (slot : SlotRef) : Prop :=
  s.bus.transmit = .sending ⟨f, slot⟩ ∧ s.bus.receive = .inFrame f.cells

/-- The Bus Interface after completion: the sequence number one further, the frame end recorded, DEFER set
for a CLAIM (R54, R61). -/
def completedBus (b : BusInterface) (claim : Bool) : BusInterface :=
  { b with ownSeq := b.ownSeq + 1, transmit := .quiet, receive := .outOfFrame 0,
           defer := b.defer || claim }

/-- The sequence passes stage 7: the expectation is UNSYNCHRONISED or equal (R71, R72). -/
abbrev inSequence (s : State) (f : Frame) : Prop :=
  (s.entry f.id).expectation = none ∨ (s.entry f.id).expectation = some f.seq

/-- The entry after a CLAIM or CANCEL in sequence, its group being `g` (R68, R71 to R73). -/
def entryAfter (s : State) (f : Frame) (g : Option Group) : RosterEntry :=
  ⟨true, g, some (f.seq + 1), some s.now⟩

/-- The table takes the claim: no record of its owner and sequence, and the admission check with margin G
passes (R22). -/
abbrev admitted (s : State) (f : Frame) (c : ClaimFields) : Prop :=
  (∀ x ∈ s.table, ¬(x.owner = f.id ∧ x.seq = f.seq))
  ∧ admissionCheck s.params s.params.G s.table
      ⟨s.now + c.offset.setWidth 32, c.weight.toNat, c.group, c.offset.toNat⟩ = .pass

/-- The record of a claim whose frame ends now (R3, R19, R22). -/
def recordOf (s : State) (f : Frame) (c : ClaimFields) (tag : Option Byte) : ClaimRecord :=
  { owner := f.id, seq := f.seq, cls := c.cls, group := c.group, weight := c.weight,
    start := s.now + c.offset.setWidth 32, received := s.now, state := .pending, tag := tag }

/-- The payload with these claim fields (R59). -/
def claimOf (c : ClaimFields) : Payload := .claim c.cls c.group c.weight c.offset

/-- This station pulls STOP_N at this tick: from the drive start up to but not including the drive end (R98). -/
def pullsStop (s : State) : Bool :=
  match s.stop.drive with
  | .released => false
  | .driving _ start finish _ => decide (0 ≤ tickDiff s.now start) && decide (tickDiff s.now finish < 0)

/-- STOP_N is low at this tick: this station or a peer pulls it (R101, R109). -/
def stopIsLow (s : State) : Bool := pullsStop s || s.stop.peersLow

/-- The station pulls LINK low or releases it: while it sends a frame, ARBITRATING or SENDING, the cell of the
frame that comes after those decoded so far, and recessive otherwise (R42, R44, R49). -/
def linkDriver (b : BusInterface) : Cell :=
  match b.transmit, b.receive with
  | .arbitrating x, .inFrame cells | .sending x, .inFrame cells => x.frame.cells.getD cells.length true
  | .arbitrating _, .unsynchronised _ | .arbitrating _, .outOfFrame _
  | .sending _, .unsynchronised _ | .sending _, .outOfFrame _ | .quiet, _ => true

/-- The status of a command that is taken is ready 1 or 2 ticks later (R163, log 14). -/
def statusWait (s : State) : Nat := max 1 (min 2 (Config.statusDelay s.port.takings))

/-- The bits of a value, most significant first (R42). -/
def bits {w : Nat} (v : BitVec w) : List Cell := (List.range w).map (fun i => v.getLsbD (w - 1 - i))

/-- A cell boundary at which the station may begin a frame, apart from what its slots hold (R47, R48). -/
abbrev boundary (s : State) (idle : Nat) : Prop :=
  s.bus.receive = .outOfFrame idle ∧ 8 ≤ idle ∧ s.bus.lastCell = true ∧ s.bus.attempted = false
    ∧ s.bus.transmit = .quiet ∧ s.stop.lineLow = false ∧ stopIsLow s = false

/-- The Bus Interface as a frame begins at an idle count; at 24 DEFER is clear (R44, R47, R53). -/
def begun (s : State) (idle : Nat) (p : Payload) (d : Byte) (slot : SlotRef) : BusInterface :=
  { s.bus with attempted := true, defer := s.bus.defer && decide (idle < 24), receive := .inFrame [],
               transmit := .arbitrating ⟨⟨s.ownId, s.bus.ownSeq, d, p⟩, slot⟩ }

/-- A two-byte number of the image, most significant byte first (R185). -/
def word (img : Image) (i : Nat) : Nat := 256 * (imageByte img i).toNat + (imageByte img (i + 1)).toNat

/-- A class entry of the image is fit for use (R7, R185). -/
abbrev classFit (img : Image) (c : Nat) : Prop :=
  let e := 15 + 4 * c
  (imageByte img e).toNat - 128 ≤ 3 ∧ 1 ≤ (imageByte img (e + 1)).toNat
    ∧ imageByte img (e + 1) ≤ imageByte img 2 ∧ 1 ≤ word img (e + 2)

/-- A class is enabled: bit 7 of its first byte (R185). -/
abbrev classOn (img : Image) (c : Nat) : Prop := 128 ≤ (imageByte img (15 + 4 * c)).toNat

/-- The image passes JOIN's validation, condition by condition over its bytes (R4, R6, R7, R185). -/
abbrev accepted (img : Image) : Prop :=
  100 ≤ word img 0 ∧ 1 ≤ (imageByte img 2).toNat
  ∧ (1 ≤ word img 3 ∧ word img 3 ≤ 4095)
  ∧ (word img 3 ≤ word img 5 ∧ word img 5 ≤ 16383 ∧ word img 5 ≤ word img 0)
  ∧ (16 ≤ word img 7 ∧ word img 7 ≤ 4095)
  ∧ (1 ≤ (imageByte img 9).toNat ∧ (imageByte img 9).toNat ≤ 63)
  ∧ word img 7 + 2 * (imageByte img 9).toNat ≤ word img 10
  ∧ (imageByte img 12).toNat ≤ 31 ∧ (imageByte img 13).toNat ≤ 3 ∧ (imageByte img 14).toNat ≤ 1
  ∧ (∀ c < 8, classOn img c → classFit img c)
  ∧ (∃ c < 8, classOn img c)

/-- The entry to LISTENING with STOP_N high: the join interval begins, a JOIN is owed, synchronisation is
sought afresh (R82, R83, R91). -/
def listening (s : State) : State :=
  { s with
    ctrl := { s.ctrl with station := .listening, joinOwed := true,
                          joinEnd := some (s.now + BitVec.ofNat 32 s.params.joinInterval) }
    bus := { s.bus with receive := .unsynchronised 0 }
    log := { s.log with flags := { s.log.flags with state := true } } }

/-- The same entry with STOP_N low: a fall is observed at the entry tick (R86, R102, R103). -/
def listeningUnderPulse (s : State) : State :=
  { listening s with
    ctrl := { (listening s).ctrl with station := .quiesce, remembered := some .listening,
                                      moveWaits := false }
    roster := s.roster.map (fun e => { e with expectation := none })
    stop := { s.stop with lineLow := true, fallTick := some s.now, classification := .none,
                          busFaultRaised := false, lineTaken := true }
    log := { s.log with flags := { s.log.flags with state := true, recovery := true } } }

/-- The entry to ACTIVE: the join-interval end absent, a waiting JOIN withdrawn (R84). -/
def activated (s : State) : State :=
  { s with
    ctrl := { s.ctrl with station := .active, joinEnd := none, joinOwed := false, moveWaits := false }
    req := { s.req with joinSlot := false }
    log := { s.log with flags := { s.log.flags with state := true } } }

/-! What one event makes of the requests and of the records that go with them -/

/-- An own record with this tag is among those that an event removes (R30, R31, R33). -/
def struck (s : State) (removed : ClaimRecord → Bool) (tag : Byte) : Bool :=
  s.table.any (fun x => removed x && decide (x.owner = s.ownId ∧ x.tag = some tag))

/-- A request back in WAITING, with no start tick and its attempts as they were (R137, R138). -/
def again (r : Request) : Request := { r with state := .waiting, start := none }

/-- A claim that no record stands for any more: it is tried again, or it has been tried three times (R137). -/
def triedAgain (r : Request) : Disposition :=
  if r.attempts < 3 then .front (again r) else .leave .voided .attempts

/-- What a fall of STOP_N makes of a request (R137, R138, R143, R144). -/
def fateAtFall (s : State) (r : Request) : Disposition :=
  let hit := struck s (fun x => decide (x.state = .pending)) r.tag
  match r.state with
  | .waiting | .firing => .stay r
  | .sending => if r.mark then .leave .cancelled .none else .front (again r)
  | .pending => if hit = true ∨ r.start = none then triedAgain r else .stay r
  | .granted => if hit then triedAgain r else .stay r
  | .cancelling =>
    if hit = true ∨ s.onBus (.cancel r.tag) = true ∧ r.start.any (fun t => reached t s.now) = true then
      .leave .cancelled .none
    else .stay r

/-- What a drain makes of a request (R31): the records that start later than the classification tick are removed
(R31, R137, R144). -/
def fateAtDrain (s : State) (tick : Tick) (r : Request) : Disposition :=
  if struck s (fun x => later x.start tick) r.tag then
    match r.state with
    | .pending | .granted => triedAgain r
    | .cancelling => .leave .cancelled .none
    | .waiting | .sending | .firing => .stay r
  else .stay r

/-- The result of a request that leaves as CANCELLED or VOIDED (R131). -/
def resultOf (fate : Request → Disposition) (r : Request) : Option ResultEntry :=
  match fate r with
  | .leave o why => some ⟨r.tag, o, why, none, r.attempts⟩
  | .stay _ | .front _ => none

/-- A request that goes back to WAITING at the front. -/
def returning (fate : Request → Disposition) (r : Request) : Option Request :=
  match fate r with
  | .front q => some q
  | .stay _ | .leave _ _ => none

/-- A request that keeps its place. -/
def staying (fate : Request → Disposition) (r : Request) : Option Request :=
  match fate r with
  | .stay q => some q
  | .front _ | .leave _ _ => none

/-- The tags of the own records that an event removes, in the table's order, which is start order (R20). -/
def removedTags (s : State) (removed : ClaimRecord → Bool) : List Byte :=
  (s.table.filter (fun x => removed x && decide (x.owner = s.ownId))).filterMap ClaimRecord.tag

/-- The requests that go to the front: first those whose records were removed, in the start order of the
records, then any other (R128, R138; that order of the others is log 30). -/
def frontOf (s : State) (removed : ClaimRecord → Bool) (fate : Request → Disposition) : List Request :=
  (removedTags s removed).filterMap (fun g =>
      (s.req.list.find? (fun r => decide (r.tag = g))).bind (returning fate))
    ++ (s.req.list.filter (fun r => decide (r.tag ∉ removedTags s removed))).filterMap (returning fate)

/-- The station after an event that removes records and answers every request: the results in list order,
the records of departing requests detached, no outgoing slot holding a frame of one, no claim in its slot
whose request went back, and the list with the returning requests in front (R30, R31, R34, R128, R131,
R138, R144, R145). -/
def answeredAll (s : State) (removed : ClaimRecord → Bool) (fate : Request → Disposition) : State :=
  let left := s.req.list.filterMap (resultOf fate)
  let gone (g : Byte) : Bool := left.any (fun e => decide (e.tag = g))
  let front := frontOf s removed fate
  { s with
    table := (s.table.filter (fun x => !removed x)).map (fun x =>
      if x.owner = s.ownId ∧ x.tag.any gone = true then { x with tag := none } else x)
    req := { s.req with
      list := front ++ s.req.list.filterMap (staying fate)
      claimSlot := if s.req.claimSlot.any (fun g => gone g || front.any (fun r => decide (r.tag = g))) = true
        then none else s.req.claimSlot
      cancelSlots := s.req.cancelSlots.filter (fun c => !gone c.tag) }
    port := { s.port with results := s.port.results ++ left } }

/-- No two own records carry one tag (R33). A run state has it: `tieInv` and the unique names of `tableInv` give it. -/
abbrev ownTagsDiffer (s : State) : Prop := (removedTags s (fun _ => true)).Nodup

/-- When an event happens, with the ticks, counts and levels of its rule written out (R2). A port command or
a reset happens only when it comes. -/
def happens (s : State) : Instr → Prop
  | .busSyncGained =>
    s.ctrl.station.receiving = true ∧ ∃ n, s.bus.receive = .unsynchronised n ∧ 24 ≤ n
  | .idleCount24 => s.bus.defer = true ∧ ∃ n, s.bus.receive = .outOfFrame n ∧ 24 ≤ n
  | .startBit => s.bus.lastCell = false ∧ ∃ n, s.bus.receive = .outOfFrame n
  | .attemptStart => ∃ n, boundary s n
      ∧ (s.ctrl.station = .active
          ∧ ((∃ c ∈ s.req.cancelSlots, c.late = false) ∨ s.req.claimSlot ≠ none ∧ (s.bus.defer = true → 24 ≤ n))
        ∨ s.ctrl.station = .listening ∧ s.req.joinSlot = true)
  | .arbitrationLost => ∃ x cells, s.bus.transmit = .arbitrating x ∧ s.bus.receive = .inFrame cells
      ∧ cells.getLast? = some false ∧ x.frame.cells[cells.length - 1]? = some true
  | .arbitrationWon => ∃ x cells, s.bus.transmit = .arbitrating x ∧ s.bus.receive = .inFrame cells
      ∧ 8 ≤ cells.length ∧ cells.take 8 = x.frame.cells.take 8
  | .readback => ∃ x cells, ∃ sentCell readCell : Cell, s.bus.receive = .inFrame cells
      ∧ cells.getLast? = some readCell ∧ x.frame.cells[cells.length - 1]? = some sentCell
      ∧ (s.bus.transmit = .sending x ∧ sentCell ≠ readCell
        ∨ s.bus.transmit = .arbitrating x ∧ sentCell = false ∧ readCell = true)
  | .frameCompleted => ∃ x, s.bus.transmit = .sending x ∧ s.bus.receive = .inFrame x.frame.cells
  | .frameEndReceived => s.ctrl.station.receiving = true ∧ s.bus.transmit = .quiet
      ∧ ∃ cells f, s.bus.receive = .inFrame cells ∧ checkCells cells = .complete f
  | .frameCheckFailed => s.ctrl.station.receiving = true ∧ s.bus.transmit = .quiet
      ∧ ∃ cells d, s.bus.receive = .inFrame cells ∧ checkCells cells = .failed d
  | .driveStart => ∃ c start finish, s.stop.drive = .driving c start finish false
      ∧ 0 ≤ tickDiff s.now start
  | .driveEnd => ∃ c start finish pulling, s.stop.drive = .driving c start finish pulling
      ∧ 0 ≤ tickDiff s.now finish
  | .stopFall => s.ctrl.station.receiving = true ∧ s.stop.lineLow = false ∧ stopIsLow s = true
      ∧ s.stop.lineTaken = false
  | .longClassification => s.ctrl.station.receiving = true ∧ s.stop.lineLow = true ∧ stopIsLow s = true
      ∧ s.stop.classification = .none ∧ ∃ f, s.stop.fallTick = some f ∧ 0 ≤ tickDiff s.now (f + 60)
  | .stopRise => s.ctrl.station = .quiesce ∧ s.stop.lineLow = true ∧ stopIsLow s = false
      ∧ s.stop.lineTaken = false
  | .quiesceEnd => s.ctrl.station = .quiesce ∧ ∃ t, s.stop.quiesceEnd = some t ∧ 0 ≤ tickDiff s.now t
  | .busFault => s.ctrl.station.receiving = true ∧ s.stop.lineLow = true ∧ stopIsLow s = true
      ∧ s.stop.busFaultRaised = false
      ∧ ∃ f, s.stop.fallTick = some f ∧ 0 ≤ tickDiff s.now (f + 2000)
  | .joinIntervalEnd => s.ctrl.station = .listening ∧ s.ctrl.moveWaits = false
      ∧ ∃ t, s.ctrl.joinEnd = some t ∧ 0 ≤ tickDiff s.now t
  | .holdExpiry owner seq => ∃ x ∈ s.table, x.owner = owner ∧ x.seq = seq ∧ x.state = .pending
      ∧ 0 ≤ tickDiff s.now (x.received + BitVec.ofNat 32 (s.params.H + s.params.G))
  | .retirement owner seq => ∃ x ∈ s.table, x.owner = owner ∧ x.seq = seq
      ∧ 0 ≤ tickDiff s.now (x.start + BitVec.ofNat 32 (s.params.W + 2 * s.params.G))
  | .headToSending => s.ctrl.station = .active ∧ s.table.length < 48
      ∧ (∀ q ∈ s.req.list, q.state ≠ .sending ∧ q.state ≠ .pending) ∧ ∃ r ∈ s.req.list, r.state = .waiting
  | .deadlineExpiry tag => ∃ r, s.request tag = some r ∧ r.state = .waiting
      ∧ tickDiff r.deadline s.now < s.params.H + 2 * s.params.G
  | .startTickReached tag => ∃ r t, s.request tag = some r ∧ r.start = some t ∧ 0 ≤ tickDiff s.now t
      ∧ (r.state = .granted ∨ r.state = .cancelling ∧ s.onBus (.cancel tag) = false)
  | .channelEnd c => ∃ e, s.channel c = some e ∧ 0 ≤ tickDiff s.now e.endTick
  | .powerOnReset | .resetRelease | .readState | .readTime | .readEvents | .fetchResult
  | .resultClockedOut | .query _ | .submit _ _ _ _ | .cancel _ | .abort _ | .join | .leave | .resume
  | .configure _ | .readConfig | .readErrorRecord | .clearError | .readCounters | .clearCounters
  | .readTable _ | .readRoster _ | .unknownCommand _ | .transactionDiscarded _ => False

/-- No tick lies in both stretches: `d` ticks from `t` on, `e` ticks from `u` on. -/
def disjoint (t : Tick) (d : Nat) (u : Tick) (e : Nat) : Prop :=
  ∀ k < d, ∀ j < e, t + BitVec.ofNat 32 k ≠ u + BitVec.ofNat 32 j

/-- The tick meets the spacing and the budget with margin 2G and the channel condition, for a request
(R11, R12, R15). -/
def fits (s : State) (r : Request) (t : Tick) : Prop :=
  let p := s.params
  let w := (s.classOf r.cls).weight.toNat
  let len := p.W + 2 * p.G
  let d := (s.classOf r.cls).duration
  (∀ x ∈ s.table, p.sShort + 2 * p.G ≤ (tickDiff t x.start).natAbs
    ∧ (x.group = s.ownGroup → p.sLong + 2 * p.G ≤ (tickDiff t x.start).natAbs))
  ∧ (∀ k < len, w + ((s.table.filter (fun x => decide (-(k : Int) ≤ tickDiff x.start t
      ∧ tickDiff x.start t < (len : Int) - k))).map (fun x => x.weight.toNat)).sum ≤ p.B)
  ∧ (∀ x ∈ s.table, x.owner = s.ownId → s.channelOf x.cls = s.channelOf r.cls →
      disjoint t d x.start (s.classOf x.cls).duration)
  ∧ (∀ e, s.channel (s.channelOf r.cls) = some e →
      disjoint t d s.now (tickDiff e.endTick s.now).toNat)

end Sys2Proof.Said

section Statements

open Sys2Proof Sys2Proof.Machine Sys2Proof.Said

/-! ### The step -/

/-- A step takes the command at the front of the queue and runs it on the state with the queue's rest. -/
def Obligations.StepTakesTheFrontCommand : Prop :=
  ∀ (c : Instr) (rest : List Instr) (s : State), s.pending = c :: rest →
    step s = exec c { s with pending := rest }

/-- With no command waiting and no event due, one tick passes: the counter (unless the reset is held), one
cell of LINK, one sample's worth of the peers' lines, one level of CS_N, and nothing else. LINK is low where a
peer pulls it or where the cell that this station sends is dominant: while ARBITRATING or SENDING the cell of
its own frame that comes after the cells decoded so far, and recessive otherwise. A rise of CS_N ends
the transaction, a fall begins one, which is discarded while the reset is held, and the status of a taken
command comes one tick nearer (R1, R2, R42, R44 to R46, R49, R163, R165, R167; that the tick is what an empty queue
does is the model's choice, log 1). -/
def Obligations.QuietTickAdvancesTimeAndOneCell : Prop :=
  ∀ s : State, s.pending = [] → dueEvents s = [] →
    let level := linkDriver s.bus && s.bus.peers.headD true
    step s = .next { s with
      now := if s.resetHeld then s.now else s.now + 1
      bus := { s.bus with
        receive :=
          if s.ctrl.station.receiving then
            match s.bus.receive with
            | .unsynchronised n => .unsynchronised (if level then min 24 (n + 1) else 0)
            | .outOfFrame n => .outOfFrame (if level then min 255 (n + 1) else n)
            | .inFrame cells => .inFrame (cells ++ [level])
          else s.bus.receive
        lastCell := level
        attempted := false
        peers := s.bus.peers.tail }
      stop := { s.stop with lineTaken := false, peersLow := s.stop.peers.headD false,
                            peers := s.stop.peers.tail }
      port := { s.port with
        transaction :=
          if s.port.selects.headD false = false then .idle
          else match s.port.transaction with
            | .idle => if s.resetHeld then .discarded else .receiving
            | .answered wait st bytes fetching => .answered (wait - 1) st bytes fetching
            | .receiving => .receiving
            | .discarded => .discarded
        fetchEnding := false
        selects := s.port.selects.tail } }

/-- With no command waiting and some event due, no time passes: one of the due events comes to the front of
the queue (R2; which one is left open where several are due, log 3). Every event whose condition holds, whatever
record, request or channel it concerns, is among them, so none is overlooked. -/
def Obligations.EveryDueEventComesBeforeTheTick : Prop :=
  (∀ s : State, s.pending = [] → dueEvents s ≠ [] →
     ∃ c n, c ∈ dueEvents s ∧ isDue s c = true ∧ step s = .next { s with pending := [c], choices := n })
  ∧ (∀ (s : State) (c : Instr), isDue s c = true → c ∈ dueEvents s)

/-- An event that is taken is no longer due: the station does not take one event for ever at one tick
(R2). -/
def Obligations.TakenEventIsNoLongerDue : Prop :=
  ∀ (c : Instr) (s t : State), isDue s c = true → exec c s = .next t → isDue t c = false

/-- Each event is due exactly where its rule's condition holds, written out tick by tick: none acts before its
tick, STOP_N being low from this station's drive start up to but not including its drive end or while a peer
pulls it, and no frame begins below an idle count of 8, below 24 for a CLAIM while DEFER is set, with STOP_N low, or
in QUIESCE. A port command, a reset and RESULT_CLOCKED_OUT are never due of themselves. An event command (none of
those) whose condition does not hold changes nothing (R2, R28, R29, R45 to R48, R50, R52 to R54, R61, R62, R84,
R98, R101 to R107, R132, R139, R140, R150, R156; that such a command changes nothing is the model's choice, log 2).
A waiting CANCEL calls for an attempt only where it was not placed at the start tick of its request: that is not
R47's but R150's, and the bit late is the model's own (log 34). So are the other bits in the conditions: attempted,
one attempt at a boundary (log 21); lineTaken, one sample of STOP_N a tick (log 6); moveWaits, the move to ACTIVE
that waits for the own JOIN (log 20). The words of the conditions are written out too: the signed difference of two
ticks, the states that receive, the listed request of a tag, the slot whose frame is on LINK (R2, R44, R79, R127). -/
def Obligations.EventNotDueChangesNothing : Prop :=
  (∀ t u : Tick, tickDiff t u = (t - u).toInt ∧ (reached t u = true ↔ 0 ≤ (u - t).toInt)
    ∧ (later t u = true ↔ 0 < (t - u).toInt))
  ∧ (∀ st : StationState, st.receiving = true ↔ st = .listening ∨ st = .active ∨ st = .quiesce)
  ∧ (∀ (s : State) (tag : Byte), s.request tag = s.req.list.find? (fun r => decide (r.tag = tag)))
  ∧ (∀ (s : State) (slot : SlotRef), s.onBus slot = true ↔
      ∃ x, (s.bus.transmit = .arbitrating x ∨ s.bus.transmit = .sending x) ∧ x.slot = slot)
  ∧ (∀ (c : Instr) (s : State), isDue s c = true ↔ happens s c)
  ∧ ∀ (c : Instr) (s : State), (portEncode c).isNone = true → c ≠ .powerOnReset → c ≠ .resetRelease →
      c ≠ .resultClockedOut → ¬happens s c → exec c s = .next s

/-- A step faults only where a GRANTED request's start is handed to a channel whose entry has not reached
its end tick, and refuses only a term that no transaction spells (R155, R164, R165; logs 18 and 19). -/
def Obligations.OnlyFaultIsAStartOnAHeldChannel : Prop :=
  ∀ (c : Instr) (s : State),
    (∀ f, exec c s = .fault f → ∃ tag r e, c = .startTickReached tag ∧ s.request tag = some r
      ∧ r.state = .granted ∧ s.channel (s.channelOf r.cls) = some e ∧ reached e.endTick s.now = false)
    ∧ (∀ f, exec c s = .refused f → c.wellFormed = false)

/-! ### Resets -/

/-- Power-on and a low RESET_N set every item of R81, whatever the state was, and a transaction in progress is
discarded (R81, R167); the lines the peers and the board controller drive, the model's own counters and the queue
stand. -/
def Obligations.ResetHoldsTheValuesOfR81 : Prop :=
  ∀ s : State, exec .powerOnReset s = .next
    { resetHeld := true
      now := 0
      ctrl := { station := .offline, joinEnd := none, remembered := none, joinOwed := false,
                moveWaits := false, identityOwed := false }
      bus := { receive := .unsynchronised 0, transmit := .quiet, defer := false, ownSeq := 0,
               lastCell := s.bus.lastCell, attempted := false, peers := s.bus.peers }
      table := []
      roster := Vector.replicate 32 ⟨false, none, none, none⟩
      stop := { drive := .released, lineLow := false, fallTick := none, classification := .none,
                quiesceEnd := none, busFaultRaised := false, lineTaken := false,
                peersLow := s.stop.peersLow, peers := s.stop.peers }
      req := { list := [], claimSlot := none, cancelSlots := [], joinSlot := false }
      out := Vector.replicate 4 none
      log := { record := none, overrun := 0, counters := ⟨0, 0, 0, 0, 0⟩,
               flags := ⟨false, false, false, false, false⟩ }
      port := { image := none, digest := none, results := [],
                transaction := match s.port.transaction with
                  | .idle => .idle
                  | .receiving | .answered _ _ _ _ | .discarded => .discarded
                fetchEnding := false
                takings := s.port.takings
                selects := s.port.selects }
      choices := s.choices
      pending := s.pending }

/-- The release of the reset changes nothing but that the station begins to act, and while the reset is held
every step leaves every value of R81 as it is (R81). While RESET_N is low, and after it in a transaction that
the reset found in progress, no command of the local port is taken: each leaves the station as it was (R81,
R167). -/
def Obligations.HeldResetKeepsItsValuesAndTakesNothing : Prop :=
  ((∀ s : State, exec .resetRelease s = .next { s with resetHeld := false })
   ∧ ∀ s t : State, heldInv s → step s = .next t → heldInv t)
  ∧ (∀ (c : Instr) (s : State), s.resetHeld = true ∨ s.port.transaction = .discarded →
       (portEncode c).isSome = true → (∀ received, c ≠ .transactionDiscarded received) →
       c.wellFormed = true → exec c s = .next s)

/-! ### Reading the station -/

/-- READ STATE and READ TIME: codes 1 and 2, answered OK in every station state, with the values as they
stand, and nothing but the transaction changes (R178). -/
def Obligations.ReadStateAndTimeReport : Prop :=
  portDecode [1] = .readState ∧ portDecode [2] = .readTime ∧
  ∀ s : State, portOpen s →
    exec .readState s = .next (s.answer .ok
      [s.ctrl.station.code, BitVec.ofNat 8 s.table.length, BitVec.ofNat 8 s.req.list.length,
        BitVec.ofNat 8 s.port.results.length, (s.bus.ownSeq.setWidth 16).extractLsb' 8 8,
        (s.bus.ownSeq.setWidth 16).extractLsb' 0 8, if s.bus.defer then 1 else 0])
    ∧ exec .readTime s = .next (s.answer .ok
      [s.now.extractLsb' 24 8, s.now.extractLsb' 16 8, s.now.extractLsb' 8 8, s.now.extractLsb' 0 8])

/-- READ EVENTS: code 3, answered OK in every station state with the flags as they stand, all five cleared
at the taking, and ATTN_N then low only for queued results. In every state ATTN_N is low exactly while RESET_N is
high and a result is queued or one of the five flags is set (R168, R179). -/
def Obligations.ReadEventsReportsAndClears : Prop :=
  portDecode [3] = .readEvents ∧
  (∀ s : State, s.attnLow = true ↔ s.resetHeld = false ∧ (s.port.results ≠ []
    ∨ s.log.flags.state = true ∨ s.log.flags.detect = true ∨ s.log.flags.recovery = true
    ∨ s.log.flags.foreign = true ∨ s.log.flags.busFault = true)) ∧
  ∀ s : State, portOpen s →
    let t := State.answer { s with log := { s.log with flags := ⟨false, false, false, false, false⟩ } } .ok
      [BitVec.ofNat 8 (s.log.flags.state.toNat + 2 * s.log.flags.detect.toNat
        + 4 * s.log.flags.recovery.toNat + 8 * s.log.flags.foreign.toNat
        + 16 * s.log.flags.busFault.toNat)]
    exec .readEvents s = .next t ∧ t.attnLow = !s.port.results.isEmpty

/-- READ CONFIG: the two flags, the 47 bytes as CONFIGURE wrote them or 0, the digest or 0; 49 bytes. READ ERROR
RECORD and READ COUNTERS: the fields of the entry, each 0 where it is absent, with its presence flag, and the
overrun count; the five counters. Nothing but the transaction changes (R173, R180, 11.5). The codes of station
states, frame kinds, record states, request states, outcomes, reasons, detection kinds and statuses are those of
the tables of 11.4 and R166, and a wider value goes most significant byte first (R163). -/
def Obligations.ReadConfigErrorRecordAndCountersReport : Prop :=
  ([StationState.offline, .listening, .active, .quiesce, .silent, .configFault].map StationState.code
      = [0, 1, 2, 3, 4, 5]
    ∧ [FrameKind.cancel, .claim, .join].map FrameKind.code = [0, 1, 2]
    ∧ [RecordState.pending, .confirmed].map RecordState.code = [0, 1]
    ∧ [RequestState.waiting, .sending, .pending, .granted, .firing, .cancelling].map RequestState.code
      = [0, 1, 2, 3, 4, 5]
    ∧ [ResultOutcome.done, .aborted, .cancelled, .denied, .voided].map ResultOutcome.code = [1, 2, 3, 4, 5]
    ∧ [Reason.none, .deadline, .horizon, .attempts, .silent, .leave, .fault].map Reason.code
      = [0, 1, 2, 3, 4, 5, 6]
    ∧ [DetectionKind.crc, .framing, .readback, .sequenceGap, .groupMismatch, .checkFail, .claimRange,
        .unknownTarget, .outOfTurn, .identity].map DetectionKind.code = [1, 2, 3, 4, 5, 6, 7, 8, 9, 10]
    ∧ [Status.ok, .busy, .notActive, .wrongState, .badParam, .badConfig, .unknownTag, .tooLate, .empty,
        .idle].map Status.code = [0, 1, 2, 3, 4, 5, 6, 7, 8, 9])
  ∧ (∀ v : BitVec 16, (bytes2 v).map BitVec.toNat = [v.toNat / 256, v.toNat % 256])
  ∧ (∀ v : Seq, (seqBytes v).map BitVec.toNat = [v.toNat / 256, v.toNat % 256])
  ∧ (∀ t : Tick, (tickBytes t).map BitVec.toNat
      = [t.toNat / 2 ^ 24, t.toNat / 2 ^ 16 % 256, t.toNat / 256 % 256, t.toNat % 256])
  ∧ (∀ s : State, portOpen s →
     exec .readConfig s = .next (s.answer .ok
       ([BitVec.ofNat 8 (s.port.image.isSome.toNat + 2 * s.port.digest.isSome.toNat)]
         ++ (match s.port.image with
             | some img => img.toList
             | none => List.replicate 47 0)
         ++ [s.port.digest.getD 0]))
     ∧ (configBytes s.port.image s.port.digest).length = 49)
  ∧ (∀ s : State, portOpen s →
       (s.log.record = none → exec .readErrorRecord s = .next (s.answer .ok
         (List.replicate 20 0 ++ [BitVec.ofNat 8 s.log.overrun])))
       ∧ (∀ e, s.log.record = some e →
         let d := e.detection
         exec .readErrorRecord s = .next (s.answer .ok
           ([BitVec.ofNat 8 (1 + 2 * d.header.isSome.toNat
               + 4 * (d.header.any (fun h => h.verified)).toNat + 8 * d.expected.isSome.toNat
               + 16 * d.claim.isSome.toNat + 32 * d.target.isSome.toNat), d.kind.code]
             ++ tickBytes e.tick
             ++ [e.station.code, (d.header.map (fun h => h.sender.setWidth 8)).getD 0,
                 (d.header.map (fun h => h.kind.code)).getD 0]
             ++ seqBytes ((d.header.map (fun h => h.seq)).getD 0)
             ++ seqBytes (d.expected.getD 0)
             ++ [(d.claim.map (fun c => c.cls.setWidth 8)).getD 0,
                 (d.claim.map (fun c => c.group.setWidth 8)).getD 0,
                 (d.claim.map (fun c => c.weight)).getD 0]
             ++ bytes2 ((d.claim.map (fun c => c.offset)).getD 0)
             ++ seqBytes (d.target.getD 0) ++ [BitVec.ofNat 8 s.log.overrun])))
       ∧ exec .readCounters s = .next (s.answer .ok
         (bytes2 (BitVec.ofNat 16 s.log.counters.good) ++ bytes2 (BitVec.ofNat 16 s.log.counters.short)
           ++ bytes2 (BitVec.ofNat 16 s.log.counters.long) ++ bytes2 (BitVec.ofNat 16 s.log.counters.own)
           ++ bytes2 (BitVec.ofNat 16 s.log.counters.foreign))))

/-- READ TABLE and READ ROSTER: the record at an index below the occupancy, EMPTY from there to 47, BAD_PARAM
above; the entry of an id up to 31, BAD_PARAM above (R41, R181). QUERY: the state, attempts, flags and start
tick of the listed request with the tag, UNKNOWN_TAG where no listed request carries it (R152, R177). Nothing
but the transaction changes. -/
def Obligations.ReadTableRosterAndQueryReport : Prop :=
  (∀ (s : State) (i : Byte), portOpen s →
     (∀ x, s.table[i.toNat]? = some x → i.toNat ≤ 47 → exec (.readTable i) s = .next (s.answer .ok
       ([x.owner.setWidth 8] ++ seqBytes x.seq ++ [x.cls.setWidth 8, x.group.setWidth 8, x.weight]
         ++ tickBytes x.start ++ tickBytes x.received
         ++ [if x.state = .pending then 0 else 1, x.tag.getD 0])))
     ∧ (s.table.length ≤ i.toNat → i.toNat ≤ 47 → exec (.readTable i) s = .next (s.answer .empty []))
     ∧ (47 < i.toNat → exec (.readTable i) s = .next (s.answer .badParam []))
     ∧ (∀ id : StationId, id.toNat = i.toNat →
       let e := s.roster[id.toNat]'id.isLt
       exec (.readRoster i) s = .next (s.answer .ok
         ([BitVec.ofNat 8 (e.present.toNat + 2 * e.group.isSome.toNat + 4 * e.expectation.isSome.toNat
             + 8 * e.lastHeard.isSome.toNat), (e.group.getD 0).setWidth 8]
           ++ seqBytes (e.expectation.getD 0) ++ tickBytes (e.lastHeard.getD 0))))
     ∧ (31 < i.toNat → exec (.readRoster i) s = .next (s.answer .badParam [])))
  ∧ (∀ (s : State) (tag : Byte), portOpen s →
       (∀ r ∈ s.req.list, r.tag = tag → tagsDiffer s → exec (.query tag) s = .next (s.answer .ok
         ([r.state.code, BitVec.ofNat 8 r.attempts, BitVec.ofNat 8 (r.start.isSome.toNat + 2 * r.mark.toNat)]
           ++ tickBytes (r.start.getD 0))))
       ∧ ((∀ r ∈ s.req.list, r.tag ≠ tag) → exec (.query tag) s = .next (s.answer .unknownTag [])))

/-! ### Results -/

/-- FETCH RESULT presents the head entry and leaves it queued, EMPTY when there is none; the entry leaves the
queue, once, when its eighth byte has been clocked out, also when another command was taken first at that very
instant (R170, R171). An answer fixes the status and the response, in a transaction of its own, with the status
ready 1 or 2 ticks later, so a byte clocked at once reads the filler (R163, log 14). -/
def Obligations.FetchedEntryLeavesWhenClockedOut : Prop :=
  (∀ (s : State) (st : Status) (bytes : List Byte),
    s.answer st bytes = { s with port := { s.port with
      transaction := .answered (statusWait s) st bytes false
      fetchEnding := s.port.fetchEnding || match s.port.transaction with
        | .answered _ _ _ fetching => fetching
        | .idle | .receiving | .discarded => false
      takings := s.port.takings + 1 } })
  ∧ ∀ s : State, portOpen s →
    (s.port.results = [] → exec .fetchResult s = .next (s.answer .empty []))
    ∧ (∀ e rest, s.port.results = e :: rest → exec .fetchResult s = .next { s with port := { s.port with
        transaction := .answered (statusWait s) .ok
          ([e.tag, e.outcome.code, e.reason.code] ++ tickBytes (e.start.getD 0)
            ++ [BitVec.ofNat 8 e.attempts]) true
        fetchEnding := false
        takings := s.port.takings + 1 } })
    ∧ (∀ wait st bytes, s.port.transaction = .answered wait st bytes true →
        exec .resultClockedOut s = .next { s with port := { s.port with
          results := s.port.results.tail, transaction := .answered wait st bytes false
          fetchEnding := false } })
    ∧ ((∀ wait st bytes, s.port.transaction ≠ .answered wait st bytes true) →
        exec .resultClockedOut s = .next (if s.port.fetchEnding = true then
          { s with port := { s.port with results := s.port.results.tail, fetchEnding := false } } else s))

/-! ### Requests -/

/-- SUBMIT examines the station state, then the tag and the class, then the credit; the first that fails
decides the answer and changes nothing; otherwise the request is appended as WAITING (R129, R130), with the
model's own bit overdue false (log 32). -/
def Obligations.SubmitExaminesInOrder : Prop :=
  ∀ (s : State) (tag cls : Byte) (notBefore deadline : Tick), portOpen s →
    exec (.submit tag cls notBefore deadline) s = .next
      (if ¬(s.ctrl.station = .listening ∨ s.ctrl.station = .active ∨ s.ctrl.station = .quiesce) then
        s.answer .notActive []
      else if tag = 0 ∨ (∃ r ∈ s.req.list, r.tag = tag)
          ∨ ¬(cls.toNat < 8 ∧ (s.classOf (cls.setWidth 3)).enabled = true) then
        s.answer .badParam []
      else if 8 ≤ s.req.list.length ∨ 16 ≤ s.req.list.length + s.port.results.length then
        s.answer .busy []
      else State.answer { s with req := { s.req with list := s.req.list ++
          [{ tag := tag, cls := cls.setWidth 3, notBefore := notBefore, deadline := deadline,
             state := .waiting, attempts := 0, claimSeq := none, start := none, mark := false,
             overdue := false }] } }
        .ok [])

/-- CANCEL, row by row of R142's table: by the state of the listed request that carries the tag. Where the claim
it withdraws could begin at this very boundary, no frame begins at it; where the start tick of a GRANTED request is
reached, its CANCEL frame does not begin before the start, which finds it in the slot, and the request leaves with
CANCELLED (R150; the bit that holds this is log 34). -/
def Obligations.CancelAnswersByRequestState : Prop :=
  ∀ (s : State) (tag : Byte), portOpen s →
    ((∀ r ∈ s.req.list, r.tag ≠ tag) → exec (.cancel tag) s = .next (s.answer .unknownTag []))
    ∧ ∀ r ∈ s.req.list, r.tag = tag → tagsDiffer s →
      let gone := (departed s r .cancelled .none none).answer .ok []
      (r.state = .waiting → exec (.cancel tag) s = .next gone)
      ∧ (r.state = .sending → s.onBus (.claim tag) = false →
          let begins := s.ctrl.station = .active ∧ (∀ c ∈ s.req.cancelSlots, c.late = true)
            ∧ s.req.claimSlot = some tag
            ∧ ∃ n, boundary s n ∧ (s.bus.defer = true → 24 ≤ n)
          (¬begins → exec (.cancel tag) s = .next gone)
          ∧ (begins → exec (.cancel tag) s = .next
            { gone with bus := { s.bus with attempted := true } }))
      ∧ (r.state = .sending → s.onBus (.claim tag) = true → r.mark = false →
          s.req.cancelSlots.length < 2 → exec (.cancel tag) s = .next
            ((withCancel (changed s tag (fun q => { q with mark := true })) r).answer .ok []))
      ∧ (r.state = .sending → s.onBus (.claim tag) = true → r.mark = false →
          2 ≤ s.req.cancelSlots.length → exec (.cancel tag) s = .next (s.answer .busy []))
      ∧ (r.state = .sending → s.onBus (.claim tag) = true → r.mark = true →
          exec (.cancel tag) s = .next (s.answer .ok []))
      ∧ (r.state = .cancelling → exec (.cancel tag) s = .next (s.answer .ok []))
      ∧ (r.state = .pending → r.start = none → exec (.cancel tag) s = .next gone)
      ∧ (r.state = .granted ∨ r.state = .pending ∧ r.start ≠ none → s.req.cancelSlots.length < 2 →
          exec (.cancel tag) s = .next
            ((withCancel (changed s tag (fun q => { q with state := .cancelling })) r).answer .ok []))
      ∧ (∀ start, r.state = .granted → r.start = some start → reached start s.now = true →
          s.req.cancelSlots.length < 2 → (∀ c ∈ s.req.cancelSlots, c.tag ≠ tag) →
          s.onBus (.cancel tag) = false →
          let u := (withCancel (changed s tag (fun q => { q with state := .cancelling })) r).answer .ok []
          exec (.startTickReached tag) u
            = .next (departed u { r with state := .cancelling } .cancelled .none none)
          ∧ ∃ v, exec .attemptStart u = .next v ∧ v.onBus (.cancel tag) = false)
      ∧ (r.state = .granted ∨ r.state = .pending ∧ r.start ≠ none → 2 ≤ s.req.cancelSlots.length →
          exec (.cancel tag) s = .next (s.answer .busy []))
      ∧ (r.state = .firing → exec (.cancel tag) s = .next (s.answer .tooLate []))

/-- ABORT: BAD_PARAM outside 0 to 3, IDLE for an idle channel; a busy channel becomes idle, its pin goes low,
and its request leaves with ABORTED and its start tick, its record detached (R141, R158). -/
def Obligations.AbortCutsABusyChannel : Prop :=
  ∀ (s : State) (b : Byte), portOpen s →
    (3 < b.toNat → exec (.abort b) s = .next (s.answer .badParam []))
    ∧ ∀ c : Channel, c.toNat = b.toNat →
      (s.channel c = none → exec (.abort b) s = .next (s.answer .idle []))
      ∧ ∀ e r, s.channel c = some e → r ∈ s.req.list → r.tag = e.tag → tagsDiffer s →
        let t := (departed { s with out := s.out.set c.toNat none c.isLt } r .aborted .none r.start).answer
          .ok []
        s.outPin c = true ∧ exec (.abort b) s = .next t ∧ t.outPin c = false

/-! ### Configuration, and the commands that move the station -/

/-- CONFIGURE: code 48 with 47 parameter bytes, discarded when fewer arrive; in OFFLINE the bytes replace the
image as they come, in any other state the answer is WRONG_STATE; nothing else changes (R165, R172). The bytes
mean what the layout says: the seven parameters, the station id, the rail group, the tolerance mode and the eight
class entries, each two-byte number most significant byte first (R4, R6, R185). -/
def Obligations.ConfigureStoresTheBytesInOffline : Prop :=
  (∀ bytes : List Byte, bytes.length = 47 →
    ∃ img : Image, img.toList = bytes ∧ portDecode (48 :: bytes) = .configure img)
  ∧ (∀ bytes : List Byte, bytes.length < 47 →
    portDecode (48 :: bytes) = .transactionDiscarded (48 :: bytes))
  ∧ (∀ (s : State) (img : Image), s.port.image = some img →
      (∀ i, (h : i < 47) → imageByte img i = img[i])
      ∧ s.params = ⟨word img 0, (imageByte img 2).toNat, word img 3, word img 5, word img 7,
          (imageByte img 9).toNat, word img 10⟩
      ∧ s.ownId.toNat = (imageByte img 12).toNat % 32 ∧ s.ownGroup.toNat = (imageByte img 13).toNat % 4
      ∧ (s.tolerance = .latched ↔ imageByte img 14 = 0)
      ∧ ∀ c : ClassNo, let e := 15 + 4 * c.toNat
        s.classOf c = ⟨decide (classOn img c.toNat), (imageByte img e).toNat % 128, imageByte img (e + 1),
          word img (e + 2)⟩
        ∧ (s.channelOf c).toNat = (imageByte img e).toNat % 4)
  ∧ ∀ (s : State) (img : Image), portOpen s →
    exec (.configure img) s = .next
      (if s.ctrl.station = .offline then
        State.answer { s with port := { s.port with image := some img } } .ok []
       else s.answer .wrongState [])

/-- JOIN: refused outside OFFLINE, BAD_CONFIG when the image is unconfigured or any condition of R7 fails, and
otherwise the digest is held and the station is LISTENING (R7, R8, R82, R174); with STOP_N low at the entry a
fall is observed there (R102). RESUME: taken in SILENT only, and the same entry is made without validation (R91,
R102, R174). The digest is formed bit by bit over the first twelve bytes of the image, each most significant bit
first, in a register that starts at 0 and inverts bits 2, 1 and 0 (R184). -/
def Obligations.JoinAndResumeListen : Prop :=
  (∀ img : Image, imageDigest img = crc8 ((List.range 96).map (fun j =>
     (imageByte img (j / 8)).getLsbD (7 - j % 8))))
  ∧ (crc8 [] = 0 ∧ ∀ (bits : List Bool) (b : Bool) (i : Nat), i < 8 →
     (crc8 (bits ++ [b])).getLsbD i = (decide (0 < i) && (crc8 bits).getLsbD (i - 1)
       ^^ (b != (crc8 bits).getLsbD 7) && decide (i = 2 ∨ i = 1 ∨ i = 0)))
  ∧ (∀ s : State, portOpen s → stationInv s →
     (s.ctrl.station ≠ .offline → exec .join s = .next (s.answer .wrongState []))
     ∧ (s.ctrl.station = .offline → (∀ img ∈ s.port.image, ¬ accepted img) →
         exec .join s = .next (s.answer .badConfig []))
     ∧ ∀ img, s.ctrl.station = .offline → s.port.image = some img → accepted img →
       let t := { s with port := { s.port with digest := some (imageDigest img) } }
       (stopIsLow s = false → exec .join s = .next ((listening t).answer .ok []))
       ∧ (stopIsLow s = true → exec .join s = .next ((listeningUnderPulse t).answer .ok [])))
  ∧ (∀ s : State, portOpen s → stationInv s →
       (s.ctrl.station ≠ .silent → exec .resume s = .next (s.answer .wrongState []))
       ∧ (s.ctrl.station = .silent → stopIsLow s = false →
           exec .resume s = .next ((listening s).answer .ok []))
       ∧ (s.ctrl.station = .silent → stopIsLow s = true →
           exec .resume s = .next ((listeningUnderPulse s).answer .ok [])))

/-- LEAVE: WRONG_STATE in OFFLINE; elsewhere the station goes OFFLINE, every request leaves in list order with
its result, outputs are cut, the table and slots are emptied, the roster cleared, the digest no longer held;
image, log, sequence number, counter and drive stand (R89, R100, R146, R162, R174). -/
def Obligations.LeaveTakesTheStationOffline : Prop :=
  ∀ s : State, portOpen s →
    (s.ctrl.station = .offline → exec .leave s = .next (s.answer .wrongState []))
    ∧ (s.ctrl.station ≠ .offline →
        let t := fallenOut s .offline .leave
        exec .leave s = .next (State.answer { t with port := { t.port with digest := none } } .ok []))

/-! ### The Detection Log's commands, and bytes that are no command -/

/-- CLEAR ERROR empties the error record and the overrun count, CLEAR COUNTERS the five counters; each is answered
OK in every station state and changes nothing else (R121, R124, R180). A byte that names no command is answered
BAD_PARAM and touches no block; a transaction cut before its last parameter byte changes nothing but that CS_N is
high (R164, R165, R167). SDO is released while CS_N is high and while RESET_N is low, shows 0 while a command
arrives, then 255 until the status is ready, then the status, the response and 0 (R163, R167). -/
def Obligations.ClearsAndStrayBytes : Prop :=
  (∀ s : State, portOpen s →
     exec .clearError s = .next (State.answer { s with log := { s.log with record := none, overrun := 0 } } .ok [])
     ∧ exec .clearCounters s = .next
       (State.answer { s with log := { s.log with counters := ⟨0, 0, 0, 0, 0⟩ } } .ok []))
  ∧ (∀ code : Byte, paramCount code = none ↔
       code.toNat ∉ [1, 2, 3, 4, 5, 16, 17, 18, 32, 33, 34, 48, 49, 64, 65, 66, 67, 80, 81])
  ∧ (∀ s : State, portOpen s → ∀ code : Byte, paramCount code = none →
       exec (.unknownCommand code) s = .next (s.answer .badParam []))
  ∧ (∀ (s : State) (received : List Byte), spellsCommand received = false →
       exec (.transactionDiscarded received) s
         = .next { s with port := { s.port with transaction := .idle } })
  ∧ (∀ (s : State) (k : Nat),
       (s.resetHeld = true ∨ s.port.transaction = .idle → s.sdo k = none)
       ∧ (s.resetHeld = false → s.port.transaction = .receiving → s.sdo k = some 0)
       ∧ ∀ wait st bytes fetching, s.resetHeld = false →
           s.port.transaction = .answered wait st bytes fetching →
           (0 < wait → s.sdo k = some 255) ∧ (wait = 0 → s.sdo k = some ((st.code :: bytes).getD k 0)))

/-- What the board controller sends for a command is read as that command, whatever it sends after the last
parameter byte, and every transaction is read as a well-formed command; the command bytes and the parameters in
their order are written out (R163 to R165, R170 to R181). -/
def Obligations.PortBytesRoundTrip : Prop :=
  ([Instr.readState, .readTime, .readEvents, .fetchResult, .join, .leave, .resume, .readConfig, .readErrorRecord,
      .clearError, .readCounters, .clearCounters].map portEncode
    = ([1, 2, 3, 4, 32, 33, 34, 49, 64, 65, 66, 67] : List Byte).map (fun code => some [code])
  ∧ (∀ b : Byte, portEncode (.query b) = some [5, b] ∧ portEncode (.cancel b) = some [17, b]
    ∧ portEncode (.abort b) = some [18, b] ∧ portEncode (.readTable b) = some [80, b]
    ∧ portEncode (.readRoster b) = some [81, b])
  ∧ (∀ (tag cls : Byte) (notBefore deadline : Tick), portEncode (.submit tag cls notBefore deadline)
    = some ([16, tag, cls] ++ tickBytes notBefore ++ tickBytes deadline))
  ∧ ∀ img : Image, portEncode (.configure img) = some (48 :: img.toList))
  ∧ (∀ (c : Instr) (bytes : List Byte), c.wellFormed = true → portEncode c = some bytes →
    portDecode bytes = c
    ∧ ∀ more : List Byte, (∀ received, c ≠ .transactionDiscarded received) →
        portDecode (bytes ++ more) = c)
  ∧ ∀ received : List Byte, (portDecode received).wellFormed = true

/-! ### LINK: synchronisation and the beginning of a frame -/

/-- BUS_SYNC_GAINED after 24 recessive cells, IDLE_COUNT_24, and START_BIT: the receive side, DEFER, and the
owed JOIN placed in LISTENING (R45, R46, R53, R83). -/
def Obligations.SynchronisationIdleAndStartBit : Prop :=
  ∀ (s : State) (n : Nat),
    (s.ctrl.station.receiving = true → s.bus.receive = .unsynchronised n → 24 ≤ n →
      exec .busSyncGained s = .next { s with
        bus := { s.bus with receive := .outOfFrame 24, defer := false }
        req := { s.req with joinSlot :=
          s.req.joinSlot || (decide (s.ctrl.station = .listening) && s.ctrl.joinOwed) } })
    ∧ (s.bus.receive = .outOfFrame n → 24 ≤ n → s.bus.defer = true →
      exec .idleCount24 s = .next { s with bus := { s.bus with defer := false } })
    ∧ (s.bus.receive = .outOfFrame n → s.bus.lastCell = false →
      exec .startBit s = .next { s with bus := { s.bus with receive := .inFrame [false] } })

/-- ATTEMPT_START of a CANCEL in ACTIVE, the older first and before any CLAIM, and of a JOIN in LISTENING; a CANCEL
that was placed at the start tick of its request is passed over (R150, log 34). The
frame is fixed from the station's id, sequence number, digest and the slot or rail group, and DEFER is clear at an
idle count of 24 (R47, R49, R53). -/
def Obligations.CancelAndJoinFramesBegin : Prop :=
  ∀ (s : State) (n : Nat) (d : Byte), boundary s n → s.port.digest = some d →
    (∀ before c rest, s.ctrl.station = .active → s.req.cancelSlots = before ++ c :: rest →
      (∀ b ∈ before, b.late = true) → c.late = false →
      exec .attemptStart s = .next { s with bus := begun s n (.cancel c.target) d (.cancel c.tag) })
    ∧ (s.ctrl.station = .listening → s.req.joinSlot = true →
      exec .attemptStart s = .next { s with bus := begun s n (.join s.ownGroup) d .join })

/-- ATTEMPT_START of the CLAIM in ACTIVE, when no CANCEL waits but one placed at its start tick (R150, log 34), and
DEFER permits: the claim is built for a frame
end 75 ticks ahead; a start is sent as its offset from there, NONE denies the request, FULL sends it back to
WAITING in its place (R47, R49, R53, R133). -/
def Obligations.ClaimFrameIsBuiltAtTheAttempt : Prop :=
  ∀ (s : State) (n : Nat) (d : Byte) (r : Request), boundary s n → s.port.digest = some d →
    s.ctrl.station = .active → (∀ c ∈ s.req.cancelSlots, c.late = true) → (s.bus.defer = true → 24 ≤ n) →
    r ∈ s.req.list → tagsDiffer s → s.req.claimSlot = some r.tag →
    let u := { s with bus := { s.bus with attempted := true, defer := s.bus.defer && decide (n < 24) } }
    (∀ t, earliestStart s r (s.now + 75) = .start t → exec .attemptStart s = .next
      { (changed s r.tag (fun q => { q with claimSeq := some s.bus.ownSeq })) with
        bus := begun s n
          (.claim r.cls s.ownGroup (s.classOf r.cls).weight ((t - (s.now + 75)).setWidth 16))
          d (.claim r.tag) })
    ∧ (∀ limit, earliestStart s r (s.now + 75) = .none limit →
      exec .attemptStart s = .next (departed u r .denied limit none))
    ∧ (earliestStart s r (s.now + 75) = .full →
      let v := changed u r.tag (fun q => { q with state := .waiting })
      exec .attemptStart s = .next { v with req := { v.req with claimSlot := none } })

/-! ### LINK: arbitration and readback -/

/-- ARBITRATION_LOST: LINK is released and the receive side decodes on. An unmarked CLAIM, a JOIN, and a CANCEL
whose start is not reached stay in their slots; a marked CLAIM's request, and one whose CANCEL is lost after
its start, leave with CANCELLED. ARBITRATION_WON: the transmit side is SENDING (R50, R134, R143, R144). -/
def Obligations.ArbitrationIsLostOrWon : Prop :=
  ∀ (s : State) (x : Sending) (cells : List Cell), s.bus.transmit = .arbitrating x →
    s.bus.receive = .inFrame cells →
    let u := { s with bus := { s.bus with transmit := .quiet } }
    (cells.getLast? = some false → x.frame.cells[cells.length - 1]? = some true →
      (∀ r ∈ s.req.list, tagsDiffer s → x.slot = .claim r.tag → s.ctrl.moveWaits = false →
        (r.state = .sending → r.mark = false → exec .arbitrationLost s = .next u)
        ∧ (r.state = .sending → r.mark = true →
          exec .arbitrationLost s = .next (departed u r .cancelled .none none)))
      ∧ (∀ r ∈ s.req.list, tagsDiffer s → x.slot = .cancel r.tag → s.ctrl.moveWaits = false →
        (∀ t, r.state = .cancelling → r.start = some t →
          (reached t s.now = false → exec .arbitrationLost s = .next u)
          ∧ (reached t s.now = true →
            exec .arbitrationLost s = .next (departed u r .cancelled .none none))))
      ∧ (x.slot = .join → s.ctrl.moveWaits = false → exec .arbitrationLost s = .next u)
      ∧ (x.slot = .join → s.ctrl.station = .listening → s.ctrl.moveWaits = true →
          exec .arbitrationLost s = .next (activated u)))
    ∧ (cells.length = 8 → cells = x.frame.cells.take 8 →
      exec .arbitrationWon s = .next { s with bus := { s.bus with transmit := .sending x } })

/-- READBACK: in SENDING any difference, in ARBITRATING a dominant cell read recessive. The frame is abandoned
with its sequence number unused, synchronisation is lost, and the Log takes the detection with this
station's id and the frame's kind and sequence. An unmarked claim, a CANCEL before its start tick and a JOIN
stay in their slots unless the station withdraws; a marked claim's request, and one whose CANCEL is abandoned
at or after its start tick, leave with CANCELLED; a move to ACTIVE that waited for the JOIN is taken (R50, R52,
R62, R84, R134, R143, R144). -/
def Obligations.ReadbackAbandonsTheFrame : Prop :=
  ∀ (s : State) (x : Sending) (cells : List Cell) (sentCell readCell : Cell),
    (s.bus.transmit = .sending x ∧ sentCell ≠ readCell
      ∨ s.bus.transmit = .arbitrating x ∧ sentCell = false ∧ readCell = true) →
    s.bus.receive = .inFrame cells → cells.getLast? = some readCell →
    x.frame.cells[cells.length - 1]? = some sentCell →
    let t := ({ s with bus := { s.bus with transmit := .quiet, receive := .unsynchronised 0 } }).takeDetection
      ⟨.readback, some ⟨s.ownId, x.frame.kind, x.frame.seq, false⟩, none, none, none⟩
    (x.slot = .join → exec .readback s = .next
      (if s.ctrl.moveWaits = true ∧ t.ctrl.station = .listening then activated t else t))
    ∧ ∀ r ∈ s.req.list, tagsDiffer s → s.ctrl.moveWaits = false →
      (x.slot = .claim r.tag → r.state = .sending → exec .readback s = .next
        (if r.mark = true ∧ r ∈ t.req.list then departed t r .cancelled .none none else t))
      ∧ (x.slot = .cancel r.tag → r.state = .cancelling → exec .readback s = .next
        (if r.start.any (fun st => reached st s.now) = true ∧ r ∈ t.req.list then
          departed t r .cancelled .none none else t))

/-! ### LINK: completed frames -/

/-- FRAME_COMPLETED of the own JOIN: the sequence number advances, the slot is released, the JOIN is no longer owed,
the station's own entry is re-based, and a move to ACTIVE that waited is taken (R54, R65, R70, R83, R84).
FRAME_COMPLETED of a CANCEL: its request leaves with CANCELLED, its record detached, and the table then removes
the record the frame names, with no report, or raises UNKNOWN_TARGET where there is none (R26, R54, R144). -/
def Obligations.CompletedJoinAndCancelTakeEffect : Prop :=
  (∀ (s : State) (f : Frame) (g : Group), sent s f .join → f.payload = .join g →
     s.ctrl.station = .listening →
     let t : State := { s with
       ctrl := { s.ctrl with joinOwed := false }
       bus := completedBus s.bus false
       req := { s.req with joinSlot := false } }
     let u := heard t f.id (entryAfter s f (some g))
     (s.ctrl.moveWaits = false → exec .frameCompleted s = .next u)
     ∧ (s.ctrl.moveWaits = true → exec .frameCompleted s = .next (activated u)))
  ∧ (∀ (s : State) (f : Frame) (target : Seq) (r : Request), sent s f (.cancel r.tag) →
       f.payload = .cancel target → s.ctrl.station = .active → r ∈ s.req.list → tagsDiffer s →
       r.state = .cancelling → inSequence s f → s.req.claimSlot ≠ some r.tag → f.id = s.ownId →
       let t := departed s r .cancelled .none none
       let u := heard { t with bus := completedBus s.bus false } f.id (entryAfter s f (s.entry f.id).group)
       (∀ x ∈ s.table, x.owner = f.id → x.seq = target → (x.tag = some r.tag ∨ x.tag = none) →
         (∀ y ∈ s.table, y.owner = f.id → y.seq = target → y = x) → exec .frameCompleted s = .next { u with
           table := t.table.filter (fun y => decide ¬(y.owner = f.id ∧ y.seq = target)) })
       ∧ ((∀ x ∈ s.table, ¬(x.owner = f.id ∧ x.seq = target)) → exec .frameCompleted s = .next
         (u.takeDetection ⟨.unknownTarget, some (headerOf f), none, none, some target⟩)))

/-- FRAME_COMPLETED of a CLAIM that the roster accepts and the table takes: the sequence number advances, DEFER
is set, attempts rise, the record is inserted PENDING with the request's tag, and the request is PENDING
(CANCELLING if marked) with its start tick (R22, R24, R54, R65, R135, R136, R143). -/
def Obligations.CompletedClaimIsInserted : Prop :=
  ∀ (s : State) (f : Frame) (c : ClaimFields) (r : Request), sent s f (.claim r.tag) →
    f.payload = claimOf c → s.ctrl.station = .active → r ∈ s.req.list → tagsDiffer s →
    r.state = .sending → inSequence s f →
    ((s.entry f.id).group = none ∨ (s.entry f.id).group = some c.group) → admitted s f c →
    let x := recordOf s f c (some r.tag)
    let t := changed s r.tag (fun q => { q with
      attempts := q.attempts + 1, state := if q.mark then .cancelling else .pending,
      start := some x.start })
    exec .frameCompleted s = .next (heard { t with
      bus := completedBus s.bus true
      req := { t.req with claimSlot := none }
      table := insertRecord x s.table } f.id (entryAfter s f (some c.group)))

/-- FRAME_COMPLETED of a CLAIM that the station's own table refuses: an unmarked request goes back to WAITING at
the front, or leaves with VOIDED and ATTEMPTS at its third claim, and a marked one leaves with CANCELLED; then
the detection is taken (R23, R24, R135, R137, R143). -/
def Obligations.CompletedClaimMayBeRefused : Prop :=
  ∀ (s : State) (f : Frame) (c : ClaimFields) (r : Request) (k : DetectionKind),
    sent s f (.claim r.tag) → f.payload = claimOf c → s.ctrl.station = .active →
    r ∈ s.req.list → tagsDiffer s → r.state = .sending → inSequence s f →
    ((s.entry f.id).group = none ∨ (s.entry f.id).group = some c.group) →
    ((∃ x ∈ s.table, x.owner = f.id ∧ x.seq = f.seq) ∧ k = .checkFail
      ∨ (∀ x ∈ s.table, ¬(x.owner = f.id ∧ x.seq = f.seq))
        ∧ (admissionCheck s.params s.params.G s.table
            ⟨s.now + c.offset.setWidth 32, c.weight.toNat, c.group, c.offset.toNat⟩ = .range
              ∧ k = .claimRange
          ∨ admissionCheck s.params s.params.G s.table
            ⟨s.now + c.offset.setWidth 32, c.weight.toNat, c.group, c.offset.toNat⟩ = .fit
              ∧ k = .checkFail)) →
    let u : State := { s with bus := completedBus s.bus true, req := { s.req with claimSlot := none } }
    let r' : Request := { r with attempts := r.attempts + 1 }
    let after (v : State) : State := (heard v f.id (entryAfter s f (some c.group))).takeDetection
      ⟨k, some (headerOf f), none, some c, none⟩
    (r.mark = false → r.attempts < 2 → exec .frameCompleted s = .next (after { u with req := { u.req with
      list := { r' with state := .waiting, start := none }
        :: s.req.list.filter (fun q => decide (q.tag ≠ r.tag)) } }))
    ∧ (r.mark = false → 2 ≤ r.attempts → exec .frameCompleted s = .next
      (after (departed u r' .voided .attempts none)))
    ∧ (r.mark = true → exec .frameCompleted s = .next (after (departed u r' .cancelled .none none)))

/-- FRAME_COMPLETED of a CLAIM that the roster stops, out of sequence or with another group than the known one:
an unmarked request stays PENDING with no start tick, a marked one leaves with CANCELLED; then the detection is
taken and the table does not see the claim (R67, R72, R73, R138, R143). -/
def Obligations.CompletedClaimMayBeStopped : Prop :=
  ∀ (s : State) (f : Frame) (c : ClaimFields) (r : Request) (d : Detection) (e : RosterEntry),
    sent s f (.claim r.tag) → f.payload = claimOf c → s.ctrl.station = .active →
    r ∈ s.req.list → tagsDiffer s → r.state = .sending → r.start = none →
    ((∃ expected, (s.entry f.id).expectation = some expected ∧ expected ≠ f.seq
        ∧ d = ⟨.sequenceGap, some (headerOf f), some expected, none, none⟩
        ∧ e = { s.entry f.id with present := true, lastHeard := some s.now })
      ∨ (inSequence s f ∧ ∃ g, (s.entry f.id).group = some g ∧ g ≠ c.group
        ∧ d = ⟨.groupMismatch, some (headerOf f), none, none, none⟩ ∧ e = entryAfter s f (some g))) →
    let u : State := { s with bus := completedBus s.bus true, req := { s.req with claimSlot := none } }
    let r' : Request := { r with attempts := r.attempts + 1 }
    (r.mark = false → exec .frameCompleted s = .next ((heard (changed u r.tag (fun _ =>
      { r' with state := .pending })) f.id e).takeDetection d))
    ∧ (r.mark = true → exec .frameCompleted s = .next
      ((heard (departed u r' .cancelled .none none) f.id e).takeDetection d))

/-! ### LINK: received frames -/

/-- A good JOIN from a peer re-bases its sender's entry whatever it held; a CLAIM or CANCEL out of sequence
raises SEQUENCE_GAP with the expected number, and a CLAIM in sequence with another group than the known one
raises GROUP_MISMATCH, its expectation advanced all the same (R63, R68, R70, R72, R73). -/
def Obligations.RosterTakesAPeersFrame : Prop :=
  ∀ (s : State) (f : Frame), arrived s f → goodFromPeer s f →
    let e := s.entry f.id
    (∀ g, f.payload = .join g → exec .frameEndReceived s = .next
      (heard (frameEnded s) f.id (entryAfter s f (some g))))
    ∧ (∀ expected, f.kind ≠ .join → e.expectation = some expected → expected ≠ f.seq →
      exec .frameEndReceived s = .next
        ((heard (frameEnded s) f.id { e with present := true, lastHeard := some s.now }).takeDetection
          ⟨.sequenceGap, some (headerOf f), some expected, none, none⟩))
    ∧ (∀ c g, f.payload = claimOf c → inSequence s f → e.group = some g → g ≠ c.group →
      exec .frameEndReceived s = .next
        ((heard (frameEnded s) f.id (entryAfter s f (some g))).takeDetection
          ⟨.groupMismatch, some (headerOf f), none, none, none⟩))

/-- A peer's good CLAIM that the roster accepts, in LISTENING or ACTIVE, admitted by the check with margin G: a
PENDING record is inserted in its place, with no request tag (R3, R19, R22). One that is not inserted leaves the
table as it was and raises its detection: CHECK_FAIL for a second record of one owner and sequence and for FIT,
CLAIM_RANGE for RANGE, each with the claim fields the frame carried, and OUT_OF_TURN in QUIESCE without them
(R23, R25). A record is inserted after every record that starts no later and before the first that starts later
(R20). -/
def Obligations.PeersClaimIsInsertedOrRefused : Prop :=
  (∀ (x : ClaimRecord) (l : List ClaimRecord), ∃ before after, l = before ++ after
     ∧ insertRecord x l = before ++ x :: after ∧ (∀ y ∈ before, tickDiff y.start x.start ≤ 0)
     ∧ ∀ y ∈ after.head?, 0 < tickDiff y.start x.start)
  ∧ (∀ (s : State) (f : Frame) (c : ClaimFields), arrived s f → goodFromPeer s f →
     f.payload = claimOf c → (s.ctrl.station = .listening ∨ s.ctrl.station = .active) →
     inSequence s f → ((s.entry f.id).group = none ∨ (s.entry f.id).group = some c.group) →
     admitted s f c →
     exec .frameEndReceived s = .next (heard { frameEnded s with
       table := insertRecord (recordOf s f c none) s.table } f.id (entryAfter s f (some c.group))))
  ∧ (∀ (s : State) (f : Frame) (c : ClaimFields), arrived s f → goodFromPeer s f →
       f.payload = claimOf c → inSequence s f →
       ((s.entry f.id).group = none ∨ (s.entry f.id).group = some c.group) →
       let t := heard (frameEnded s) f.id (entryAfter s f (some c.group))
       let check := admissionCheck s.params s.params.G s.table
         ⟨s.now + c.offset.setWidth 32, c.weight.toNat, c.group, c.offset.toNat⟩
       let twice := ∃ x ∈ s.table, x.owner = f.id ∧ x.seq = f.seq
       ((s.ctrl.station = .listening ∨ s.ctrl.station = .active) → twice ∨ check = .fit ∧ ¬twice →
         exec .frameEndReceived s = .next (t.takeDetection
           ⟨.checkFail, some (headerOf f), none, some c, none⟩))
       ∧ ((s.ctrl.station = .listening ∨ s.ctrl.station = .active) → check = .range → ¬twice →
         exec .frameEndReceived s = .next (t.takeDetection
           ⟨.claimRange, some (headerOf f), none, some c, none⟩))
       ∧ (s.ctrl.station = .quiesce → exec .frameEndReceived s = .next (t.takeDetection
           ⟨.outOfTurn, some (headerOf f), none, none, none⟩)))

/-- A peer's good CANCEL that the roster accepts removes the record it names, in either state, in LISTENING,
ACTIVE and QUIESCE; where there is none it raises UNKNOWN_TARGET in ACTIVE and QUIESCE and nothing in
LISTENING (R26, R27). -/
def Obligations.PeersCancelRemovesTheRecord : Prop :=
  ∀ (s : State) (f : Frame) (target : Seq), arrived s f → goodFromPeer s f →
    f.payload = .cancel target → inSequence s f →
    let t := heard (frameEnded s) f.id (entryAfter s f (s.entry f.id).group)
    ((∃ x ∈ s.table, x.owner = f.id ∧ x.seq = target) → exec .frameEndReceived s = .next
      { t with table := s.table.filter (fun y => decide ¬(y.owner = f.id ∧ y.seq = target)) })
    ∧ ((∀ x ∈ s.table, ¬(x.owner = f.id ∧ x.seq = target)) →
      (s.ctrl.station = .listening → exec .frameEndReceived s = .next t)
      ∧ ((s.ctrl.station = .active ∨ s.ctrl.station = .quiesce) →
        exec .frameEndReceived s = .next (t.takeDetection
          ⟨.unknownTarget, some (headerOf f), none, none, some target⟩)))

/-- A good frame that bears this station's id and that it did not send raises IDENTITY: it is counted as good, no
entry changes, a long pulse is asked for in either tolerance mode, and CONFIG_FAULT waits for the drive start,
or comes at once when the drive has begun (R69, R93, R100, R117, R120). A foreign frame is counted and flagged
and raises nothing else; in LISTENING it takes the station to CONFIG_FAULT, every request ending with FAULT
(R63, R92, R148). That a drive under way goes on at these entries is the model's deduction from R95 and R100,
where R92 says that STOP_N is released (log 12). -/
def Obligations.OwnIdAndForeignFramesAreAnswered : Prop :=
  (∀ (s : State) (f : Frame), arrived s f → s.port.digest = some f.digest → f.id = s.ownId →
     let t : State := { frameEnded s with log := { s.log with
       counters := { s.log.counters with good := up 65535 s.log.counters.good } } }
     let u := driven (recorded t ⟨.identity, some (headerOf f), none, none, none⟩) .long
     (u.driveBegun = false →
       exec .frameEndReceived s = .next { u with ctrl := { u.ctrl with identityOwed := true } })
     ∧ (u.driveBegun = true → exec .frameEndReceived s = .next (fallenOut u .configFault .fault)))
  ∧ (∀ (s : State) (f : Frame), arrived s f → s.port.digest ≠ some f.digest →
       let t : State := { frameEnded s with log := { s.log with
         counters := { s.log.counters with foreign := up 65535 s.log.counters.foreign }
         flags := { s.log.flags with foreign := true } } }
       (s.ctrl.station ≠ .listening → exec .frameEndReceived s = .next t)
       ∧ (s.ctrl.station = .listening → exec .frameEndReceived s = .next (fallenOut t .configFault .fault)))

/-- FRAME_CHECK_FAILED: FRAMING at kind 11 with no header, FRAMING at a JOIN's dominant fill cell with an
unverified one, CRC at the end of a CRC field that differs, FRAMING at a dominant end-delimiter cell with a
verified one; synchronisation is lost and the Log takes the detection (R60, R61, R62). -/
def Obligations.MalformedFrameStopsAtItsCheck : Prop :=
  ∀ (s : State) (cells : List Cell), s.ctrl.station.receiving = true → s.bus.transmit = .quiet →
    s.bus.receive = .inFrame cells →
    let stopped (k : DetectionKind) (h : Option Header) :=
      exec .frameCheckFailed s = .next
        (({ s with bus := { s.bus with receive := .unsynchronised 0 } }).takeDetection
          ⟨k, h, none, none, none⟩)
    let head (k : FrameKind) (verified : Bool) : Option Header :=
      some ⟨BitVec.ofNat 5 (field cells 3 5), k, BitVec.ofNat 12 (field cells 8 12), verified⟩
    (cells.length = 3 → field cells 1 2 = 3 → stopped .framing none)
    ∧ ((cells.length = 31 ∨ cells.length = 32) → field cells 1 2 = 2 → cells.getLast? = some false →
        stopped .framing (head .join false))
    ∧ (∀ k, kindOf cells = some k → cells.length = k.crcAt + 16 →
        (k = .join → cells[30]? = some true ∧ cells[31]? = some true) →
        (field cells k.crcAt 16 ≠ (crc16 ((cells.take k.crcAt).drop 1)).toNat →
          stopped .crc (head k false)))
    ∧ (∀ k, kindOf cells = some k → (cells.length = k.crcAt + 17 ∨ cells.length = k.crcAt + 18) →
        (k = .join → cells[30]? = some true ∧ cells[31]? = some true) →
        field cells k.crcAt 16 = (crc16 ((cells.take k.crcAt).drop 1)).toNat →
        cells.getLast? = some false → stopped .framing (head k true))

/-! ### Detections and the stop line -/

/-- Taking an own detection: the record is filled or the overrun counted, the detection counted, DETECT set;
then a pulse of its class is asked for, or, in LATCHED mode with the record full, the station withdraws to
SILENT without a pulse (R90, R97 to R99, R117 to R119). -/
def Obligations.DetectionIsRecordedThenAnswered : Prop :=
  ∀ (s : State) (d : Detection), d.kind ≠ .identity →
    ((s.tolerance = .persistent ∨ s.log.record = none) →
      s.takeDetection d = driven (recorded s d)
        (if d.kind = .crc ∨ d.kind = .framing ∨ d.kind = .readback then .short else .long))
    ∧ (s.tolerance = .latched → s.log.record ≠ none → s.takeDetection d = silent (recorded s d))

/-- DRIVE_START pulls the line, and an IDENTITY that waited for it takes the station to CONFIG_FAULT from
whatever state it is in; DRIVE_END releases the line (R93, R98, R100). The level that is sampled is low exactly
from the drive start up to but not including the drive end, or while a peer pulls (R98, R101, R109, log 7); the
driver pulls from DRIVE_START to DRIVE_END, and a drive has begun once its start tick is reached (R100). -/
def Obligations.DriveStartsAndEnds : Prop :=
  (∀ s : State, s.stopLow = stopIsLow s ∧ s.ownLow = pullsStop s
    ∧ (s.stopDriver = true ↔ ∃ c start finish, s.stop.drive = .driving c start finish true)
    ∧ (s.driveBegun = true ↔ ∃ c start finish pulling, s.stop.drive = .driving c start finish pulling
      ∧ 0 ≤ tickDiff s.now start))
  ∧ ∀ (s : State) (c : PulseClass) (start finish : Tick),
    (s.stop.drive = .driving c start finish false → reached start s.now = true →
      let t := { s with stop := { s.stop with drive := .driving c start finish true } }
      (s.ctrl.identityOwed = false → exec .driveStart s = .next t)
      ∧ (s.ctrl.identityOwed = true → exec .driveStart s = .next (fallenOut t .configFault .fault)))
    ∧ (∀ pulling, s.stop.drive = .driving c start finish pulling → reached finish s.now = true →
      exec .driveEnd s = .next { s with stop := { s.stop with drive := .released } })

/-- STOP_FALL: the fall tick is set and a held quiesce end kept, the station enters QUIESCE remembering its
state or stays there, PENDING records are removed and every request is answered, expectations become
UNSYNCHRONISED, the frame on LINK is abandoned with its number unused, RECOVERY is set; CONFIRMED records keep all
but a departing request's tag, and the outgoing slots all but the frames of departing requests and the claim of
one that goes back (R30, R34, R45, R55, R74, R86, R103, R128, R131, R138, R143 to R145, R160). -/
def Obligations.FallStartsRecoveryAtEveryBlock : Prop :=
  ∀ s : State, tagsDiffer s → ownTagsDiffer s → s.ctrl.station.receiving = true → s.stop.lineLow = false →
    stopIsLow s = true → s.stop.lineTaken = false →
    let u := answeredAll s (fun x => decide (x.state = .pending)) (fateAtFall s)
    exec .stopFall s = .next { u with
      ctrl := { s.ctrl with
        station := .quiesce
        moveWaits := false
        remembered := match s.ctrl.station with
          | .listening => some .listening
          | .active => some .active
          | _ => s.ctrl.remembered }
      bus := { s.bus with receive := .unsynchronised 0, transmit := .quiet }
      roster := s.roster.map (fun e => { e with expectation := none })
      stop := { s.stop with lineLow := true, fallTick := some s.now, classification := .none,
                            busFaultRaised := false, lineTaken := true }
      log := { s.log with flags := { s.log.flags with
        recovery := true
        state := s.log.flags.state || decide (s.ctrl.station ≠ .quiesce) } } }

/-- What a fall makes of a request: WAITING, GRANTED and FIRING ones stand; an unmarked SENDING one goes back to
WAITING with its attempts; a PENDING one whose record was removed, or whose start is absent, goes back to
WAITING while it has attempts left and else leaves with VOIDED and ATTEMPTS; a marked SENDING one, and a
CANCELLING one whose record was removed, or whose CANCEL frame the fall abandons with the start tick reached,
leave with CANCELLED, and any other stands; the CLAIM slot is empty afterwards, and the one request that goes back
stands at the front of the list (R128, R137, R138, R143, R144, R145). -/
def Obligations.FallAnswersEachRequest : Prop :=
  ∀ s t : State, fallDue s = true → requestInv s → slotInv s → exec .stopFall s = .next t →
    t.req.claimSlot = none
    ∧ ∀ r ∈ s.req.list,
      let struck := ∃ x ∈ s.table, x.state = .pending ∧ x.owner = s.ownId ∧ x.tag = some r.tag
      let late := s.onBus (.cancel r.tag) = true ∧ ∃ st, r.start = some st ∧ reached st s.now = true
      let result (o : ResultOutcome) (why : Reason) : ResultEntry := ⟨r.tag, o, why, none, r.attempts⟩
      let gone := ∀ q ∈ t.req.list, q.tag ≠ r.tag
      (r.state = .waiting ∨ r.state = .firing → r ∈ t.req.list)
      ∧ (r.state = .granted → ¬struck → r ∈ t.req.list)
      ∧ (r.state = .sending → r.mark = false →
          { r with state := .waiting, start := none } ∈ t.req.list)
      ∧ (tieInv s → r.state = .sending ∧ r.mark = false
          ∨ r.state = .pending ∧ (struck ∨ r.start = none) ∧ r.attempts < 3 →
          t.req.list = { r with state := .waiting, start := none }
            :: (s.req.list.filter (fun q => decide (q.tag ≠ r.tag))).filterMap (staying (fateAtFall s)))
      ∧ (r.state = .pending → ¬struck → r.start ≠ none → r ∈ t.req.list)
      ∧ (r.state = .pending → struck ∨ r.start = none → r.attempts < 3 →
          { r with state := .waiting, start := none } ∈ t.req.list)
      ∧ (r.state = .pending → struck ∨ r.start = none → r.attempts = 3 →
          gone ∧ result .voided .attempts ∈ t.port.results)
      ∧ (r.state = .cancelling → ¬struck → ¬late → r ∈ t.req.list)
      ∧ (r.state = .sending ∧ r.mark = true ∨ r.state = .cancelling ∧ (struck ∨ late) →
          gone ∧ result .cancelled .none ∈ t.port.results)

/-- LONG_CLASSIFICATION: with the line low 60 ticks after the fall the pulse is LONG, one long pulse is counted,
every record that starts later than the classification tick is removed and no other, every request is answered,
and only the requests, the slots, tags and results that go with them change beside (R31, R34, R104, R128, R131,
R137, R144, R145, R160). -/
def Obligations.LongPulseDrainsLaterStarts : Prop :=
  ∀ (s : State) (fall : Tick), tagsDiffer s → ownTagsDiffer s → s.ctrl.station.receiving = true →
    s.stop.lineLow = true → stopIsLow s = true → s.stop.classification = .none →
    s.stop.fallTick = some fall → reached (fall + 60) s.now = true →
    let u := answeredAll s (fun x => later x.start (fall + 60)) (fateAtDrain s (fall + 60))
    exec .longClassification s = .next { u with
      stop := { s.stop with classification := .long (fall + 60) }
      log := { s.log with counters := { s.log.counters with long := up 65535 s.log.counters.long } } }

/-- What a drain makes of a request: one whose record it removed goes back to WAITING at the front while it has
attempts left and else leaves with VOIDED and ATTEMPTS if GRANTED or PENDING, and leaves with CANCELLED if
CANCELLING; every request whose record it did not remove stands. The list afterwards holds those that go back
first, in the start order of their records, and then the others as they stood (R128, R137, R144). -/
def Obligations.DrainAnswersEachRequest : Prop :=
  ∀ s t : State, longDue s = true → requestInv s → ownTagsDiffer s → exec .longClassification s = .next t →
    let removed (x : ClaimRecord) : Bool := later x.start (classificationTick s) && decide (x.owner = s.ownId)
    let hit (r : Request) : Bool := s.table.any (fun x => removed x && decide (x.tag = some r.tag))
    let goesBack (r : Request) : Bool :=
      decide ((r.state = .granted ∨ r.state = .pending) ∧ r.attempts < 3)
    (t.req.list
      = ((s.table.filter removed).filterMap (fun x => (x.tag.bind s.request).bind (fun r =>
          if goesBack r then some { r with state := .waiting, start := none } else none)))
        ++ s.req.list.filter (fun r => !hit r
          || decide (r.state = .waiting ∨ r.state = .sending ∨ r.state = .firing)))
    ∧ ∀ r ∈ s.req.list,
      let result (o : ResultOutcome) (why : Reason) : ResultEntry := ⟨r.tag, o, why, none, r.attempts⟩
      let gone := ∀ q ∈ t.req.list, q.tag ≠ r.tag
      (hit r = false → r ∈ t.req.list)
      ∧ (hit r = true → r.state = .granted ∨ r.state = .pending → r.attempts < 3 →
          { r with state := .waiting, start := none } ∈ t.req.list)
      ∧ (hit r = true → r.state = .granted ∨ r.state = .pending → r.attempts = 3 →
          gone ∧ result .voided .attempts ∈ t.port.results)
      ∧ (hit r = true → r.state = .cancelling → gone ∧ result .cancelled .none ∈ t.port.results)

/-- STOP_RISE: an unclassified pulse becomes SHORT and is counted, the quiesce end becomes the rise plus Q_short
or Q_long unless a later one is held, the fall tick is absent, and the join interval restarts when LISTENING
is remembered (R85, R105). -/
def Obligations.RiseSetsTheQuiesceEnd : Prop :=
  ∀ (s : State) (candidate : Tick), s.ctrl.station = .quiesce → s.stop.lineLow = true →
    stopIsLow s = false → s.stop.lineTaken = false →
    candidate = s.now + BitVec.ofNat 32
      (match s.stop.classification with
        | .long _ => s.params.W + 3 * s.params.G
        | _ => 16 + 2 * s.params.G) →
    let restart := s.now + BitVec.ofNat 32 (s.params.dMax + s.params.W + 3 * s.params.G)
    exec .stopRise s = .next { s with
      ctrl := { s.ctrl with joinEnd := if s.ctrl.remembered = some .listening then some restart
                            else s.ctrl.joinEnd }
      stop := { s.stop with
        lineLow := false, fallTick := none, lineTaken := true
        classification := if s.stop.classification = .none then .short else s.stop.classification
        quiesceEnd := match s.stop.quiesceEnd with
          | some held => if later held candidate then some held else some candidate
          | none => some candidate }
      log := { s.log with
        counters := { s.log.counters with
          short := if s.stop.classification = .none then up 65535 s.log.counters.short
            else s.log.counters.short } } }

/-- QUIESCE_END: while the line reads HIGH the station returns to its remembered state, DEFER is cleared, and in
LISTENING with synchronisation an owed JOIN is placed; while it reads LOW the end is passed over (R83, R87,
R106). -/
def Obligations.QuiesceEndResumesTheRememberedState : Prop :=
  ∀ (s : State) (t : Tick) (w : Working), s.ctrl.station = .quiesce → s.stop.quiesceEnd = some t →
    reached t s.now = true → s.ctrl.remembered = some w →
    (s.stop.lineLow = true → exec .quiesceEnd s = .next { s with
      stop := { s.stop with quiesceEnd := none } })
    ∧ (s.stop.lineLow = false → exec .quiesceEnd s = .next { s with
      ctrl := { s.ctrl with
        station := match w with
          | .listening => .listening
          | .active => .active
        remembered := none }
      bus := { s.bus with defer := false }
      stop := { s.stop with quiesceEnd := none }
      req := { s.req with joinSlot := s.req.joinSlot
        || (decide (w = .listening) && s.ctrl.joinOwed && match s.bus.receive with
            | .unsynchronised _ => false
            | .outOfFrame _ | .inFrame _ => true) }
      log := { s.log with flags := { s.log.flags with state := true } } })

/-- BUS_FAULT: with the line low 2,000 ticks after the fall the flag is set, once for the pulse, and nothing else
changes (R107). -/
def Obligations.StuckLineRaisesBusFaultOnce : Prop :=
  ∀ (s : State) (fall : Tick), s.ctrl.station.receiving = true → s.stop.lineLow = true →
    stopIsLow s = true → s.stop.fallTick = some fall → reached (fall + 2000) s.now = true →
    (s.stop.busFaultRaised = false → exec .busFault s = .next { s with
      stop := { s.stop with busFaultRaised := true }
      log := { s.log with flags := { s.log.flags with busFault := true } } })
    ∧ (s.stop.busFaultRaised = true → exec .busFault s = .next s)

/-! ### Timed events -/

/-- JOIN_INTERVAL_END in LISTENING: the station enters ACTIVE and a waiting JOIN is withdrawn, unless the own
JOIN is on LINK, when the move waits (R57, R84). -/
def Obligations.JoinIntervalEndMakesTheStationActive : Prop :=
  ∀ (s : State) (t : Tick), s.ctrl.station = .listening → s.ctrl.moveWaits = false →
    s.ctrl.joinEnd = some t → reached t s.now = true →
    (s.onBus .join = false → exec .joinIntervalEnd s = .next (activated s))
    ∧ (s.onBus .join = true →
      exec .joinIntervalEnd s = .next { s with ctrl := { s.ctrl with moveWaits := true } })

/-- HOLD_EXPIRY: at received tick + H + G the PENDING record becomes CONFIRMED in its place, and a PENDING
request that it stands for becomes GRANTED. RETIREMENT: at start tick + W + 2G the record is removed, in
whatever state, and nothing else changes (R28, R29, R136). -/
def Obligations.RecordsConfirmAndRetire : Prop :=
  ∀ (s : State) (x : ClaimRecord), x ∈ s.table →
    (∀ y ∈ s.table, y.owner = x.owner → y.seq = x.seq → y = x) →
    let rewritten := s.table.map (fun y =>
      if y.owner = x.owner ∧ y.seq = x.seq then { y with state := .confirmed } else y)
    (x.state = .pending →
      reached (x.received + BitVec.ofNat 32 (s.params.H + s.params.G)) s.now = true →
      (x.owner ≠ s.ownId ∨ x.tag = none → exec (.holdExpiry x.owner x.seq) s = .next
        { s with table := rewritten })
      ∧ (∀ g, x.owner = s.ownId → x.tag = some g → exec (.holdExpiry x.owner x.seq) s = .next
        { (changed s g (fun q => if q.state = .pending then { q with state := .granted } else q)) with
          table := rewritten }))
    ∧ (reached (x.start + BitVec.ofNat 32 (s.params.W + 2 * s.params.G)) s.now = true →
      exec (.retirement x.owner x.seq) s = .next { s with
        table := s.table.filter (fun y => decide ¬(y.owner = x.owner ∧ y.seq = x.seq)) })

/-- HEAD_TO_SENDING: in ACTIVE, with nothing own SENDING or PENDING and fewer than 48 records, the first WAITING
request becomes SENDING and its claim goes into the CLAIM slot; the model keeps with it whether its deadline expiry
was due then (R151, log 32). DEADLINE_EXPIRY: a WAITING request whose deadline is earlier than now + H + 2G, or more
than 2^31 - 1 ticks ahead of now and so past, leaves with DENIED and DEADLINE (R2, R132, R139). -/
def Obligations.HeadMovesAndDeadlinesExpire : Prop :=
  ∀ (s : State) (r : Request), tagsDiffer s → r.state = .waiting →
    (∀ before after, s.req.list = before ++ r :: after → (∀ q ∈ before, q.state ≠ .waiting) →
      s.ctrl.station = .active → (∀ q ∈ s.req.list, q.state ≠ .sending ∧ q.state ≠ .pending) →
      s.table.length < 48 →
      let t := changed s r.tag (fun q => { q with
        state := .sending
        overdue := decide (tickDiff r.deadline s.now < s.params.H + 2 * s.params.G) })
      exec .headToSending s = .next { t with req := { t.req with claimSlot := some r.tag } })
    ∧ (r ∈ s.req.list →
      tickDiff r.deadline s.now < s.params.H + 2 * s.params.G →
      exec (.deadlineExpiry r.tag) s = .next (departed s r .denied .deadline none))

/-- START_TICK_REACHED: a GRANTED request becomes FIRING and its idle channel busy until start plus duration; a
channel whose end tick is reached first ends its pulse with DONE; a CANCELLING request whose CANCEL is not on
the bus leaves with CANCELLED, unfired (R140, R144, R155, R157). CHANNEL_END: at its end tick a busy channel
becomes idle and its request leaves with DONE and its start tick, in every station state (R141, R156). The pin
OUTn is high exactly while channel n is busy (R153; within the tick of two pulses laid end to end, log 33). -/
def Obligations.OutputRisesAtTheStartAndFallsAtTheEnd : Prop :=
  (∀ (s : State) (c : Channel), s.channel c = s.out[c.toNat]'c.isLt
    ∧ (s.outPin c = true ↔ s.out[c.toNat]'c.isLt ≠ none))
  ∧ (∀ (s : State) (r : Request) (t : Tick), r ∈ s.req.list → tagsDiffer s → r.start = some t →
     reached t s.now = true →
     let c := s.channelOf r.cls
     let fired (u : State) : State :=
       { (changed u r.tag (fun q => { q with state := .firing })) with
         out := u.out.set c.toNat (some ⟨r.tag, t + BitVec.ofNat 32 (s.classOf r.cls).duration⟩) c.isLt }
     (r.state = .granted → s.channel c = none →
       exec (.startTickReached r.tag) s = .next (fired s) ∧ (fired s).outPin c = true)
     ∧ (∀ e q, r.state = .granted → s.channel c = some e → reached e.endTick s.now = true →
         q ∈ s.req.list → q.tag = e.tag → e.tag ≠ r.tag →
         exec (.startTickReached r.tag) s = .next (fired (departed s q .done .none q.start)))
     ∧ (r.state = .cancelling → s.onBus (.cancel r.tag) = false →
         exec (.startTickReached r.tag) s = .next (departed s r .cancelled .none none)))
  ∧ (∀ (s : State) (c : Channel) (e : ChannelEntry) (r : Request), s.channel c = some e →
       reached e.endTick s.now = true → r ∈ s.req.list → r.tag = e.tag → tagsDiffer s →
       exec (.channelEnd c) s = .next
         (departed { s with out := s.out.set c.toNat none c.isLt } r .done .none r.start))

/-! ### Admission -/

/-- The stretches of R12 that begin at `t` or at a record within L - 1 ticks before it decide for all L
stretches. -/
def Obligations.FewStretchesDecideTheBudget : Prop :=
  ∀ (p : Params) (len : Nat) (table : List ClaimRecord) (t : Tick) (w : Nat), 0 < len → len ≤ 2 ^ 20 →
    (budgetOk p len table t w = true ↔ ∀ k < len, w + stretchWeight table t k len ≤ p.B)

/-- A claim that passes the check with margin 2G passes it with margin G, and the converse does not hold: some
claim that passes with G fails with 2G on the same table (R14). -/
def Obligations.WiderMarginImpliesNarrower : Prop :=
  (∀ (p : Params) (table : List ClaimRecord) (c : Claim), 0 < p.W → p.W + 2 * p.G ≤ 2 ^ 20 →
    admissionCheck p (2 * p.G) table c = .pass → admissionCheck p p.G table c = .pass)
  ∧ ∃ (p : Params) (table : List ClaimRecord) (c : Claim),
    admissionCheck p p.G table c = .pass ∧ admissionCheck p (2 * p.G) table c = .fit

/-- The check answers RANGE exactly when the range test fails, PASS exactly when range, capacity, spacing and the
budget in every one of the L = W + m stretches hold, and FIT otherwise (R9 to R13). -/
def Obligations.AdmissionCheckGivesOneOutcome : Prop :=
  ∀ (p : Params) (m : Nat) (table : List ClaimRecord) (c : Claim), 0 < p.W → p.W + m ≤ 2 ^ 20 →
    let range := p.H + 2 * p.G ≤ c.offset ∧ c.offset ≤ p.dMax ∧ 1 ≤ c.weight ∧ c.weight ≤ p.B
    let spacing := ∀ x ∈ table, p.sShort + m ≤ (tickDiff c.start x.start).natAbs
      ∧ (x.group = c.group → p.sLong + m ≤ (tickDiff c.start x.start).natAbs)
    let budget := ∀ k < p.W + m, c.weight + ((table.filter (fun x =>
        decide (-(k : Int) ≤ tickDiff x.start c.start
          ∧ tickDiff x.start c.start < (p.W + m : Int) - k))).map (fun x => x.weight.toNat)).sum ≤ p.B
    let fits := table.length < 48 ∧ spacing ∧ budget
    (admissionCheck p m table c = .range ↔ ¬range)
    ∧ (admissionCheck p m table c = .pass ↔ range ∧ fits)
    ∧ (admissionCheck p m table c = .fit ↔ range ∧ ¬fits)

/-- The earliest admissible start, at an attempt whose predicted frame end F lies 75 ticks ahead: the first tick of
the request window that meets the spacing, the budget and the channel condition, NONE with the binding limit when
there is none, FULL at 48 records. The window runs from the later of the not-before tick and F + H + 2G to the
earlier of the deadline and F + Dmax, both included, a tick of the board controller that lies more than 2^31 - 1
ahead of now reading as past; DEADLINE binds when the two upper limits are equal. So every start found lies from
H + 2G to Dmax after F. A request whose deadline was over when it moved to SENDING is answered NONE with DEADLINE
(R2, R9, R11, R12, R15, R16, R17, R49, R151; the window's reading against now is log 23, the last answer log 32). -/
def Obligations.EarliestStartIsTheFirstThatFits : Prop :=
  ∀ (s : State) (r : Request), 0 < s.params.W →
    let lead : Int := 75 + s.params.H + 2 * s.params.G
    let horizon : Int := 75 + s.params.dMax
    let low := max (tickDiff r.notBefore s.now) lead
    let high := min (tickDiff r.deadline s.now) horizon
    let tick (n : Int) : Tick := s.now + BitVec.ofInt 32 n
    let answer := earliestStart s r (s.now + 75)
    (answer = .full ↔ 48 ≤ s.table.length)
    ∧ (s.table.length < 48 → r.overdue = true → answer = .none .deadline)
    ∧ (s.table.length < 48 → r.overdue = false →
      (∀ n, low ≤ n → n ≤ high → fits s r (tick n) →
        (∀ m, low ≤ m → m < n → ¬fits s r (tick m)) → answer = .start (tick n))
      ∧ ((∀ n, low ≤ n → n ≤ high → ¬fits s r (tick n)) →
        answer = .none (if tickDiff r.deadline s.now ≤ horizon then .deadline else .horizon)))
    ∧ (∀ t, answer = .start t → (s.params.H + 2 * s.params.G : Int) ≤ tickDiff t (s.now + 75)
        ∧ tickDiff t (s.now + 75) ≤ s.params.dMax)

/-- Removing a record whose retire point is reached changes no answer of the check about a claim that starts
later than now, with margin G or 2G, but that the capacity of a table of 48 records is then free: the answer can
change from FIT to PASS, and does so where the full table's spacing and budget permit (R18). -/
def Obligations.RetiredRecordChangesNoAnswer : Prop :=
  ∀ (p : Params) (table : List ClaimRecord) (c : Claim) (x : ClaimRecord) (now : Tick) (m : Nat),
    p.sShort ≤ p.sLong → p.sLong ≤ p.W → p.W + 2 * p.G ≤ 2 ^ 20 → (m = p.G ∨ m = 2 * p.G) →
    0 < tickDiff c.start now → tickDiff c.start now ≤ 2 ^ 20 →
    (∀ y ∈ table, -(2 ^ 20 : Int) ≤ tickDiff y.start now ∧ tickDiff y.start now ≤ 2 ^ 20) →
    x ∈ table → reached (x.start + BitVec.ofNat 32 (p.W + 2 * p.G)) now = true →
    let before := admissionCheck p m table c
    let after := admissionCheck p m (table.erase x) c
    (table.length ≠ 48 → after = before)
    ∧ (table.length = 48 → (before = .range ∧ after = .range) ∨ (before = .fit
      ∧ (after = .fit ∨ after = .pass)
      ∧ (after = .pass ↔
        (∀ y ∈ table, p.sShort + m ≤ (tickDiff c.start y.start).natAbs
          ∧ (y.group = c.group → p.sLong + m ≤ (tickDiff c.start y.start).natAbs))
        ∧ ∀ k < p.W + m, c.weight + ((table.filter (fun y =>
          decide (-(k : Int) ≤ tickDiff y.start c.start
            ∧ tickDiff y.start c.start < (p.W + m : Int) - k))).map (fun y => y.weight.toNat)).sum ≤ p.B)))

/-! ### Headline statements -/

/-- The cells of a frame are taken for that frame when the last of them has come and for nothing before, so no
bit of a frame is dropped or misread. The start bit, the kind, the sender id, the sequence number, the digest, the
payload of each kind, the CRC and two recessive cells follow in that order, each field most significant bit first
(R42, R58, R59, R182). The CRC field holds the register of R183: all ones at first,
and for each covered cell shifted by one place with bits 12, 5 and 0 inverted where the cell and the old bit 15
differ. -/
def Obligations.FrameCellsRoundTrip : Prop :=
  (crc16 [] = 65535 ∧ ∀ (cells : List Cell) (b : Cell) (i : Nat), i < 16 →
    (crc16 (cells ++ [b])).getLsbD i = (decide (0 < i) && (crc16 cells).getLsbD (i - 1)
      ^^ (b != (crc16 cells).getLsbD 15) && decide (i = 12 ∨ i = 5 ∨ i = 0)))
  ∧ ∀ f : Frame, (∀ i < 16, f.cells[f.kind.crcAt + i]?
      = some ((crc16 ((f.cells.take f.kind.crcAt).drop 1)).getLsbD (15 - i)))
    ∧ f.kind.crcAt = (match f.kind with
        | .cancel => 40
        | .claim => 57
        | .join => 32)
    ∧ f.cells.take f.kind.crcAt = [false]
      ++ (match f.payload with
          | .cancel _ => [false, false]
          | .claim _ _ _ _ => [false, true]
          | .join _ => [true, false])
      ++ bits f.id ++ bits f.seq ++ bits f.digest
      ++ (match f.payload with
          | .cancel target => bits target
          | .claim cls group weight offset => bits cls ++ bits group ++ bits weight ++ bits offset
          | .join group => bits group ++ [true, true])
    ∧ f.cells.drop (f.kind.crcAt + 16) = [true, true]
    ∧ checkCells f.cells = .complete f
    ∧ f.cells.length = (match f.kind with
        | .cancel => 58
        | .claim => 75
        | .join => 50)
    ∧ ∀ n < f.cells.length, checkCells (f.cells.take n) = .incomplete

/-- Every step keeps the agreement of the station's items with its state (R78, R79, R101, R102). It keeps the
drive within its ticks, and where a tick passes the driver pulls STOP_N exactly from the drive start up to but not
including the drive end (R98). -/
def Obligations.EveryStepKeepsTheStationStateInvariant : Prop :=
  (∀ s t : State, runInv s → step s = .next t → stationInv t)
  ∧ (∀ s t : State, runInv s → step s = .next t → driveInv t)
  ∧ ∀ s : State, runInv s → s.pending = [] → dueEvents s = [] → s.stopDriver = pullsStop s

/-- Every step keeps the bounds of the request list, the queue and the CANCEL slots (R127, R130, R132, R135,
R145). -/
def Obligations.EveryStepKeepsTheRequestInvariant : Prop :=
  ∀ s t : State, runInv s → step s = .next t → requestInv t

/-- Every step keeps the outgoing slots in agreement with the requests and with the frame on the bus (R132,
R142, R145). It keeps the ties between requests and records: each tagged own record stands for the listed request
of its tag, and each GRANTED and each CANCELLING request, and each PENDING one with a start tick, has its record
(R33, R34, R131, R136); with them the start ticks (R140, R144) and the own frame on LINK (R44, R49, R133). A CANCEL frame placed at the start
tick of its request waits for that start in its slot (R150, log 34). -/
def Obligations.EveryStepKeepsTheSlotInvariant : Prop :=
  (∀ s t : State, runInv s → step s = .next t → slotInv t)
  ∧ (∀ s t : State, runInv s → step s = .next t → tieInv t ∧ startInv t)
  ∧ (∀ s t : State, runInv s → step s = .next t → flightInv t)

/-- Every step keeps the channels in agreement with the FIRING requests: an output is high only for an own
request's pulse, and no channel is driven by two (R153, R154). It keeps the pulses of own claims on one channel
apart (R15, R154). In a run state a start that fires has its own confirmed record at that very tick, the pulses of
two GRANTED or FIRING requests on one channel share no tick, and the step goes on: a start finds its channel idle
or at its end tick (R154, R155). Where a tick passes, the pin OUTn is high exactly while a GRANTED or FIRING
request of the channel has its start tick reached and its class duration not over, so it does not go low between
two pulses laid end to end (R153 to R156, log 33). -/
def Obligations.EveryStepKeepsTheOutputInvariant : Prop :=
  (∀ s t : State, runInv s → step s = .next t → outputInv t)
  ∧ (∀ s t : State, runInv s → step s = .next t → channelInv t)
  ∧ (∀ s : State, runInv s →
      (∀ r ∈ s.req.list, ∀ t, r.state = .granted → r.start = some t → reached t s.now = true →
        t = s.now ∧ ∃ x ∈ s.table, x.owner = s.ownId ∧ x.tag = some r.tag ∧ x.state = .confirmed ∧ x.start = t)
      ∧ ∀ q ∈ s.req.list, ∀ r ∈ s.req.list, q.tag ≠ r.tag → s.channelOf q.cls = s.channelOf r.cls →
        (q.state = .granted ∨ q.state = .firing) → (r.state = .granted ∨ r.state = .firing) →
        ∀ t u, q.start = some t → r.start = some u →
          disjoint t (s.classOf q.cls).duration u (s.classOf r.cls).duration)
  ∧ (∀ s : State, runInv s → (∀ c rest, s.pending = c :: rest → c.wellFormed = true) → goesOn s)
  ∧ (∀ s : State, runInv s → s.pending = [] → dueEvents s = [] → ∀ c : Channel, s.outPin c = true ↔
      ∃ r ∈ s.req.list, ∃ t, (r.state = .granted ∨ r.state = .firing) ∧ s.channelOf r.cls = c
        ∧ r.start = some t ∧ 0 ≤ tickDiff s.now t ∧ tickDiff s.now t < (s.classOf r.cls).duration)

/-- Every step keeps the limits of the claim table: at most 48 records, unique names, spacing between any two
starts, and the budget in every stretch of W + G ticks (R21). It keeps the records in ascending order of start
tick, none past its retire point (R20, R29), and each start within the offset limits of its frame end, no PENDING
record past its hold expiry (R3, R9, R28). -/
def Obligations.EveryStepKeepsTheTableInvariant : Prop :=
  (∀ s t : State, runInv s → step s = .next t → tableInv t)
  ∧ (∀ s t : State, runInv s → step s = .next t → orderInv t)
  ∧ (∀ s t : State, runInv s → step s = .next t → recordInv t)

/-- The station after reset meets every invariant (R81). -/
def Obligations.ResetMeetsEveryInvariant : Prop := runInv State.reset

end Statements
end

