-- ==== Sys2Proof/Laws/Requests.lean ====
section
/-!
SUPPORT. What one event does to the request list (`State.settle`), and what the departure of one request
comes to.
-/

namespace Sys2Proof.Machine

/-! ### The request with a tag -/

/-- The listed request with a tag is that request, when no two share a tag (R127). -/
theorem find_tag_eq_some (l : List Request) (r : Request) (hr : r ∈ l) (hn : (l.map Request.tag).Nodup) :
    l.find? (fun q => q.tag == r.tag) = some r := by
  induction l with
  | nil => simp at hr
  | cons y ys ih =>
    simp only [List.map_cons, List.nodup_cons] at hn
    rcases List.mem_cons.mp hr with rfl | h
    · simp
    · have hne : y.tag ≠ r.tag := fun e => hn.1 (e ▸ List.mem_map_of_mem h)
      rw [List.find?_cons_of_neg (by simpa using hne)]
      exact ih h hn.2

/-- A request in the list is the one its tag names. -/
theorem State.request_eq_some (s : State) (r : Request) (hr : r ∈ s.req.list)
    (hn : (s.req.list.map Request.tag).Nodup) : s.request r.tag = some r := find_tag_eq_some _ r hr hn

/-- Two listed requests with one tag are one. -/
theorem eq_of_tag_eq (l : List Request) (hn : (l.map Request.tag).Nodup) (q r : Request) (hq : q ∈ l)
    (hr : r ∈ l) (h : q.tag = r.tag) : q = r := by
  have h1 := find_tag_eq_some l q hq hn
  have h2 := find_tag_eq_some l r hr hn
  rw [h, h2] at h1
  exact (Option.some.inj h1).symm

/-- The listed request a tag names is in the list and carries the tag. -/
theorem State.mem_of_request (s : State) (tag : Byte) (r : Request) (h : s.request tag = some r) :
    r ∈ s.req.list ∧ r.tag = tag :=
  ⟨List.mem_of_find?_eq_some h, by simpa using List.find?_some h⟩

/-! ### Detachment -/

/-- With nothing departing no record is detached. -/
@[simp] theorem detach_nil (own : StationId) (table : List ClaimRecord) : detach own [] table = table := by
  unfold detach
  conv => rhs; rw [← List.map_id table]
  refine List.map_congr_left fun r _ => ?_
  cases ownTag own r <;> simp

/-- One departing request detaches the own records that carry its tag (R34). -/
theorem detach_singleton (own : StationId) (g : Byte) (table : List ClaimRecord) :
    detach own [g] table = table.map (fun x =>
      if x.owner = own ∧ x.tag = some g then { x with tag := none } else x) := by
  unfold detach
  refine List.map_congr_left fun x _ => ?_
  unfold ownTag
  by_cases ho : x.owner = own
  · cases ht : x.tag with
    | none => simp [ho]
    | some h => by_cases he : h = g <;> simp [ho, he]
  · simp [ho]

/-- Detachment changes nothing of a record but its tag. -/
theorem detach_map_tagless (own : StationId) (tags : List Byte) (table : List ClaimRecord) :
    (detach own tags table).map (fun x => { x with tag := none })
      = table.map (fun x => { x with tag := none }) := by
  unfold detach
  rw [List.map_map]
  refine List.map_congr_left fun x _ => ?_
  simp only [Function.comp]
  cases ownTag own x with
  | none => rfl
  | some g => dsimp only; split <;> rfl

/-- Detachment keeps the number of records. -/
@[simp] theorem detach_length (own : StationId) (tags : List Byte) (table : List ClaimRecord) :
    (detach own tags table).length = table.length := by simp [detach]

/-! ### Order -/

@[simp] theorem orderByKey_nil (key : Request → Nat) : orderByKey key [] = [] := rfl

@[simp] theorem orderByKey_singleton (key : Request → Nat) (r : Request) : orderByKey key [r] = [r] := rfl

theorem insertByKey_perm (key : Request → Nat) (x : Request) (l : List Request) :
    (insertByKey key x l).Perm (x :: l) := by
  induction l with
  | nil => exact .refl _
  | cons y rest ih =>
    unfold insertByKey
    split
    · exact .refl _
    · exact (ih.cons y).trans (.swap x y rest)

/-- Ordering keeps the requests. -/
theorem orderByKey_perm (key : Request → Nat) (l : List Request) : (orderByKey key l).Perm l := by
  have h : ∀ acc : List Request, (l.foldl (fun acc r => insertByKey key r acc) acc).Perm (acc ++ l) := by
    induction l with
    | nil => intro acc; simp
    | cons x rest ih =>
      intro acc
      refine (ih _).trans ?_
      refine ((insertByKey_perm key x acc).append_right rest).trans ?_
      rw [List.cons_append]
      exact List.perm_middle.symm
  simpa [orderByKey] using h []

@[simp] theorem mem_orderByKey (key : Request → Nat) (l : List Request) (r : Request) :
    r ∈ orderByKey key l ↔ r ∈ l := (orderByKey_perm key l).mem_iff

@[simp] theorem orderByKey_length (key : Request → Nat) (l : List Request) :
    (orderByKey key l).length = l.length := (orderByKey_perm key l).length_eq

/-! ### One event at every request -/

/-- The list after settling. -/
theorem State.settle_list (s : State) (tags : List Byte) (d : Request → Disposition) :
    (s.settle tags d).req.list
      = orderByKey (placeOf tags) (s.req.list.filterMap (fronts d)) ++ s.req.list.filterMap (stays d) := rfl

/-- What settling leaves listed: the requests sent to the front, then those that stay. -/
theorem State.mem_settle_list (s : State) (tags : List Byte) (d : Request → Disposition) (q : Request) :
    q ∈ (s.settle tags d).req.list ↔
      ∃ r ∈ s.req.list, d r = .front q ∨ d r = .stay q := by
  simp only [State.settle_list, List.mem_append, mem_orderByKey, List.mem_filterMap]
  constructor
  · rintro (⟨r, hr, h⟩ | ⟨r, hr, h⟩)
    · refine ⟨r, hr, .inl ?_⟩
      unfold fronts at h
      cases hd : d r <;> simp_all
    · refine ⟨r, hr, .inr ?_⟩
      unfold stays at h
      cases hd : d r <;> simp_all
  · rintro ⟨r, hr, h | h⟩
    · exact .inl ⟨r, hr, by simp [fronts, h]⟩
    · exact .inr ⟨r, hr, by simp [stays, h]⟩

/-- What settling posts: the result of each request that leaves, in list order, at the tail (R131). -/
theorem State.settle_results (s : State) (tags : List Byte) (d : Request → Disposition) :
    (s.settle tags d).port.results = s.port.results ++ s.req.list.filterMap (departure d) := rfl

/-- A request that leaves posts its result. -/
theorem State.result_of_leave (s : State) (tags : List Byte) (d : Request → Disposition) (r : Request)
    (o : ResultOutcome) (why : Reason) (hr : r ∈ s.req.list) (hd : d r = .leave o why) :
    r.result o why ∈ (s.settle tags d).port.results := by
  rw [State.settle_results]
  exact List.mem_append_right _ (List.mem_filterMap.mpr ⟨r, hr, by simp [departure, hd]⟩)

theorem filterMap_split_length (l : List Request) (d : Request → Disposition) :
    (l.filterMap (fronts d)).length + (l.filterMap (stays d)).length + (l.filterMap (departure d)).length
      = l.length := by
  induction l with
  | nil => rfl
  | cons r rest ih =>
    simp only [List.filterMap_cons, fronts, stays, departure] at ih ⊢
    cases hd : d r <;> simp only [List.length_cons] <;> omega

/-- Settling keeps the credit sum: each request that leaves posts one result (R130, R131). -/
theorem State.settle_credit (s : State) (tags : List Byte) (d : Request → Disposition) :
    (s.settle tags d).req.list.length + (s.settle tags d).port.results.length
      = s.req.list.length + s.port.results.length := by
  have h := filterMap_split_length s.req.list d
  simp only [State.settle_results, State.settle_list, List.length_append, orderByKey_length]
  omega

/-- An event that leaves every request as it is changes nothing. -/
theorem State.settle_all_stay (s : State) (tags : List Byte) (d : Request → Disposition)
    (h : ∀ r ∈ s.req.list, d r = .stay r) : s.settle tags d = s := by
  have h1 : s.req.list.filterMap (departure d) = [] := by
    rw [List.filterMap_eq_nil_iff]; intro r hr; simp [departure, h r hr]
  have h2 : s.req.list.filterMap (fronts d) = [] := by
    rw [List.filterMap_eq_nil_iff]; intro r hr; simp [fronts, h r hr]
  have h3 : s.req.list.filterMap (stays d) = s.req.list := by
    have : ∀ l : List Request, (∀ r ∈ l, d r = .stay r) → l.filterMap (stays d) = l := by
      intro l
      induction l with
      | nil => intro _; rfl
      | cons r rest ih =>
        intro hl
        have hr := hl r (by simp)
        rw [List.filterMap_cons_some (b := r) (by simp [stays, hr]),
          ih fun q hq => hl q (by simp [hq])]
    exact this _ h
  have h4 : ∀ o : Option Byte, o.filter (fun _ => true) = o := by intro o; cases o <;> rfl
  simp [State.settle, h1, h2, h3, h4]

/-- One request leaves, the others stay: its record is detached, no slot holds a frame of it, its result is
at the tail (R34, R131, R145). -/
theorem State.settle_one_leaves (s : State) (tags : List Byte) (d : Request → Disposition) (r : Request)
    (o : ResultOutcome) (why : Reason) (hr : r ∈ s.req.list) (hn : (s.req.list.map Request.tag).Nodup)
    (hd : d r = .leave o why) (hs : ∀ q ∈ s.req.list, q.tag ≠ r.tag → d q = .stay q) :
    s.settle tags d = { s with
      table := s.table.map (fun x =>
        if x.owner = s.ownId ∧ x.tag = some r.tag then { x with tag := none } else x)
      req := { s.req with
        list := s.req.list.filter (fun q => decide (q.tag ≠ r.tag))
        claimSlot := if s.req.claimSlot = some r.tag then none else s.req.claimSlot
        cancelSlots := s.req.cancelSlots.filter (fun c => decide (c.tag ≠ r.tag)) }
      port := { s.port with results := s.port.results ++ [r.result o why] } } := by
  have key : ∀ l : List Request, r ∈ l → (l.map Request.tag).Nodup → (∀ q ∈ l, q.tag ≠ r.tag → d q = .stay q) →
      l.filterMap (departure d) = [r.result o why] ∧ l.filterMap (fronts d) = []
        ∧ l.filterMap (stays d) = l.filter (fun q => decide (q.tag ≠ r.tag)) := by
    have none_left : ∀ l : List Request, (∀ q ∈ l, q.tag ≠ r.tag ∧ d q = .stay q) →
        l.filterMap (departure d) = [] ∧ l.filterMap (fronts d) = []
          ∧ l.filterMap (stays d) = l.filter (fun q => decide (q.tag ≠ r.tag)) := by
      intro l
      induction l with
      | nil => intro _; exact ⟨rfl, rfl, rfl⟩
      | cons q rest ih =>
        intro hl
        obtain ⟨a, b, c⟩ := ih fun p hp => hl p (by simp [hp])
        obtain ⟨h1, h2⟩ := hl q (by simp)
        simp [departure, fronts, stays, h2, h1] at a b c ⊢
        exact ⟨a, b, c⟩
    intro l
    induction l with
    | nil => intro h; simp at h
    | cons q rest ih =>
      intro hm hnd hst
      simp only [List.map_cons, List.nodup_cons] at hnd
      rcases List.mem_cons.mp hm with rfl | hm'
      · have hrest : ∀ q ∈ rest, q.tag ≠ r.tag ∧ d q = .stay q := by
          intro q hq
          have hne : q.tag ≠ r.tag := fun e => hnd.1 (e ▸ List.mem_map_of_mem hq)
          exact ⟨hne, hst q (by simp [hq]) hne⟩
        obtain ⟨a, b, c⟩ := none_left rest hrest
        simp [departure, fronts, stays, hd] at a b c ⊢
        exact ⟨a, b, c⟩
      · have hne : q.tag ≠ r.tag := fun e => hnd.1 (e ▸ List.mem_map_of_mem hm')
        obtain ⟨a, b, c⟩ := ih hm' hnd.2 fun p hp => hst p (by simp [hp])
        have hq := hst q (by simp) hne
        simp [departure, fronts, stays, hq, hne] at a b c ⊢
        exact ⟨a, b, c⟩
  obtain ⟨h1, h2, h3⟩ := key _ hr hn hs
  simp only [State.settle, h1, h2, h3, List.map_cons, List.map_nil, orderByKey_nil, List.nil_append,
    Request.result, detach_singleton]
  congr 2
  · cases s.req.claimSlot with
    | none => rfl
    | some g => by_cases hg : g = r.tag <;> simp [Option.filter, hg]
  · refine List.filter_congr fun c _ => ?_
    by_cases hc : c.tag = r.tag <;> simp [hc]

/-- The departure of one request (R131). -/
theorem State.leaveRequest_eq (s : State) (r : Request) (o : ResultOutcome) (why : Reason)
    (hr : r ∈ s.req.list) (hn : (s.req.list.map Request.tag).Nodup) :
    s.leaveRequest r.tag o why = { s with
      table := s.table.map (fun x =>
        if x.owner = s.ownId ∧ x.tag = some r.tag then { x with tag := none } else x)
      req := { s.req with
        list := s.req.list.filter (fun q => decide (q.tag ≠ r.tag))
        claimSlot := if s.req.claimSlot = some r.tag then none else s.req.claimSlot
        cancelSlots := s.req.cancelSlots.filter (fun c => decide (c.tag ≠ r.tag)) }
      port := { s.port with results := s.port.results ++ [r.result o why] } } :=
  State.settle_one_leaves s [] _ r o why hr hn (by simp) (fun q _ hq => by simp [hq])

/-! ### The exits -/

/-- Every request leaves: the list is empty and each has its result, in list order (R146, R148). -/
theorem State.settle_all_leave (s : State) (d : Request → Disposition)
    (h : ∀ r ∈ s.req.list, ∃ o why, d r = .leave o why) :
    (s.settle [] d).req.list = [] := by
  have h2 : s.req.list.filterMap (fronts d) = [] := by
    rw [List.filterMap_eq_nil_iff]; intro r hr; obtain ⟨o, w, hd⟩ := h r hr; simp [fronts, hd]
  have h3 : s.req.list.filterMap (stays d) = [] := by
    rw [List.filterMap_eq_nil_iff]; intro r hr; obtain ⟨o, w, hd⟩ := h r hr; simp [stays, hd]
  simp [State.settle, h2, h3]

/-- At LEAVE and CONFIG_FAULT every request leaves. -/
theorem Request.onExit_leaves (why : Reason) (r : Request) : ∃ o w, Request.onExit why r = .leave o w := by
  unfold Request.onExit
  split
  · exact ⟨_, _, rfl⟩
  · exact ⟨_, _, rfl⟩
  all_goals split <;> exact ⟨_, _, rfl⟩

end Sys2Proof.Machine
end

