-- ==== Sys2Proof/Laws/Exits.lean ====
section
/-!
SUPPORT. The exits from the working states as one equation each, so that no proof unfolds them: what every
exit clears on the bus side, and what LEAVE, CONFIG_FAULT and SILENT do beside it.
-/

namespace Sys2Proof.Machine

/-- The result of a request at LEAVE or CONFIG_FAULT (R146, R148). -/
def Request.exitEntry (why : Reason) (r : Request) : ResultEntry :=
  if r.state = .firing then r.result .aborted .none
  else if r.state = .cancelling ∨ r.mark = true then r.result .cancelled .none
  else r.result .voided why

/-- Every request posts its result, in list order (R131, R146, R148). -/
theorem departures_onExit (why : Reason) (l : List Request) :
    l.filterMap (departure (Request.onExit why)) = l.map (Request.exitEntry why) := by
  induction l with
  | nil => rfl
  | cons r rest ih =>
    have h : departure (Request.onExit why) r = some (r.exitEntry why) := by
      unfold departure Request.onExit Request.exitEntry
      cases hs : r.state <;> cases hm : r.mark <;> simp
    simp [h, ih]

/-- The list is empty after LEAVE and CONFIG_FAULT. -/
theorem State.settle_onExit_list (s : State) (why : Reason) :
    (s.settle [] (Request.onExit why)).req.list = [] :=
  s.settle_all_leave _ fun r _ => Request.onExit_leaves why r

/-- The results after LEAVE and CONFIG_FAULT. -/
theorem State.settle_onExit_port (s : State) (why : Reason) :
    (s.settle [] (Request.onExit why)).port
      = { s.port with results := s.port.results ++ s.req.list.map (Request.exitEntry why) } := by
  simp [State.settle, departures_onExit]

/-- The entry to CONFIG_FAULT as one equation (R92, R93, R148, R162). -/
theorem State.enterConfigFault_eq (s : State) :
    s.enterConfigFault = { s with
      ctrl := { station := .configFault, joinEnd := none, remembered := none, joinOwed := false,
                moveWaits := false, identityOwed := false }
      bus := { s.bus with receive := .unsynchronised 0, transmit := .quiet, defer := false }
      table := []
      roster := clearedRoster
      stop := s.stop.unobserved
      req := { list := [], claimSlot := none, cancelSlots := [], joinSlot := false }
      out := idleChannels
      log := { s.log with flags := s.log.flags.set .state }
      port := { s.port with
        results := s.port.results ++ s.req.list.map (Request.exitEntry .fault) } } := by
  have hl := s.settle_onExit_list .fault
  have hp := s.settle_onExit_port .fault
  simp only [State.enterConfigFault, State.enter, State.offBus, State.setFlag, hl, hp]
  rfl

/-- LEAVE's effect as one equation (R89, R146, R162). -/
theorem State.enterOffline_eq (s : State) :
    s.enterOffline = { s with
      ctrl := { station := .offline, joinEnd := none, remembered := none, joinOwed := false,
                moveWaits := false, identityOwed := false }
      bus := { s.bus with receive := .unsynchronised 0, transmit := .quiet, defer := false }
      table := []
      roster := clearedRoster
      stop := s.stop.unobserved
      req := { list := [], claimSlot := none, cancelSlots := [], joinSlot := false }
      out := idleChannels
      log := { s.log with flags := s.log.flags.set .state }
      port := { s.port with
        digest := none
        results := s.port.results ++ s.req.list.map (Request.exitEntry .leave) } } := by
  have hl := s.settle_onExit_list .leave
  have hp := s.settle_onExit_port .leave
  simp only [State.enterOffline, State.enter, State.offBus, State.setFlag, hl, hp]
  rfl

/-- The result of a request at the entry to SILENT, for one that is not FIRING (R147). -/
def Request.silentEntry (r : Request) : ResultEntry :=
  if r.state = .cancelling ∨ r.mark = true then r.result .cancelled .none else r.result .voided .silent

/-- What SILENT makes of a request that fires, and of one that does not (R147). -/
theorem Request.onSilent_cases (r : Request) :
    (r.state = .firing → departure Request.onSilent r = none ∧ stays Request.onSilent r = some r)
    ∧ (r.state ≠ .firing → departure Request.onSilent r = some r.silentEntry
        ∧ stays Request.onSilent r = none)
    ∧ fronts Request.onSilent r = none := by
  unfold departure stays fronts Request.onSilent Request.silentEntry
  cases hs : r.state <;> cases hm : r.mark <;> simp

/-- The list and the results after the entry to SILENT: FIRING requests stay in their order (R147). -/
theorem onSilent_split (l : List Request) :
    l.filterMap (stays Request.onSilent) = l.filter (fun r => decide (r.state = .firing))
    ∧ l.filterMap (departure Request.onSilent)
        = (l.filter (fun r => decide (r.state ≠ .firing))).map Request.silentEntry
    ∧ l.filterMap (fronts Request.onSilent) = [] := by
  induction l with
  | nil => exact ⟨rfl, rfl, rfl⟩
  | cons r rest ih =>
    obtain ⟨h1, h2, h3⟩ := ih
    obtain ⟨a, b, c⟩ := r.onSilent_cases
    by_cases hf : r.state = .firing
    · obtain ⟨d, e⟩ := a hf
      simp [d, e, c, hf, h1, h2, h3]
    · obtain ⟨d, e⟩ := b hf
      simp [d, e, c, hf, h1, h2, h3]

/-- The entry to SILENT as one equation (R90, R147, R161). -/
theorem State.enterSilent_eq (s : State) :
    s.enterSilent = { s with
      ctrl := { s.ctrl with station := .silent, joinEnd := none, remembered := none, joinOwed := false,
                            moveWaits := false }
      bus := { s.bus with receive := .unsynchronised 0, transmit := .quiet, defer := false }
      table := []
      roster := unsyncRoster s.roster
      stop := s.stop.unobserved
      req := { list := s.req.list.filter (fun r => decide (r.state = .firing)), claimSlot := none,
               cancelSlots := [], joinSlot := false }
      log := { s.log with flags := s.log.flags.set .state }
      port := { s.port with results := s.port.results
        ++ (s.req.list.filter (fun r => decide (r.state ≠ .firing))).map Request.silentEntry } } := by
  obtain ⟨h1, h2, h3⟩ := onSilent_split s.req.list
  simp only [State.enterSilent, State.settle, State.enter, State.offBus, State.setFlag, h1, h2, h3]
  rfl

end Sys2Proof.Machine
end

