-- ==== Sys2Proof/Laws/Outcomes.lean ====
section
/-!
SUPPORT. What the two shapes of a meaning answer: a command of the local port, and an event with its
condition; the transaction of the port; the map of a vector.
-/

namespace Sys2Proof.Machine

/-- The port takes a command exactly while RESET_N is high and no transaction is being discarded (R167). -/
theorem State.takes_iff (s : State) :
    s.takes = true ↔ s.resetHeld = false ∧ s.port.transaction ≠ .discarded := by
  simp [State.takes]

/-- A port command has its effect where the port takes it. -/
@[simp] theorem onPort_open (f : State → State) (s : State) (h : s.resetHeld = false)
    (hd : s.port.transaction ≠ .discarded) : onPort f s = .next (f s) := by
  simp [onPort, State.takes, h, hd]

/-- A port command is not taken while RESET_N is low (R167). -/
@[simp] theorem onPort_held (f : State → State) (s : State) (h : s.resetHeld = true) :
    onPort f s = .next s := by
  simp [onPort, State.takes, h]

/-- A port command is not taken in a transaction that is being discarded (R167). -/
@[simp] theorem onPort_discarded (f : State → State) (s : State) (h : s.port.transaction = .discarded) :
    onPort f s = .next s := by
  simp [onPort, State.takes, h]

/-- CS_N high: the port is in no transaction (R163, R165). -/
@[simp] theorem Transaction.tick_high (held : Bool) (t : Transaction) : t.tick false held = .idle := rfl

/-- While the reset is held no transaction but a discarded one goes on (R167). -/
theorem Transaction.tick_onReset (low : Bool) (t : Transaction) :
    (t.onReset.tick low true) = .idle ∨ (t.onReset.tick low true) = .discarded := by
  cases low <;> cases t <;> simp [Transaction.tick, Transaction.onReset]

/-- After a taking the port presents a result entry exactly when the command was a fetch that has one
(R170). -/
@[simp] theorem LocalPort.reply_presents (p : LocalPort) (st : Status) (bytes : List Byte) (fetching : Bool) :
    (p.reply st bytes fetching).transaction.presents = fetching := rfl

/-- Taking a command leaves the image, the digest and the result queue alone (R163). -/
@[simp] theorem LocalPort.reply_results (p : LocalPort) (st : Status) (bytes : List Byte) (fetching : Bool) :
    (p.reply st bytes fetching).results = p.results := rfl

/-- The status is ready 1 or 2 ticks after the taking (R163). -/
theorem LocalPort.statusWait_bounds (p : LocalPort) : 1 ≤ p.statusWait ∧ p.statusWait ≤ 2 := by
  unfold LocalPort.statusWait; omega

/-- At the taking the status is not ready: SDO shows the filler (R163). -/
theorem State.sdo_reply (s : State) (st : Status) (bytes : List Byte) (fetching : Bool) (k : Nat)
    (h : s.resetHeld = false) : ({ s with port := s.port.reply st bytes fetching }).sdo k = some 255#8 := by
  have hw := (LocalPort.statusWait_bounds s.port).1
  obtain ⟨n, hn⟩ : ∃ n, s.port.statusWait = n + 1 := ⟨s.port.statusWait - 1, by omega⟩
  simp [State.sdo, LocalPort.reply, h, hn]

/-- A function applied to every entry is the vector's own map. -/
theorem mapEntries_eq_map {α β : Type} {n : Nat} (f : α → β) (v : Vector α n) : mapEntries f v = v.map f := by
  apply Vector.toArray_inj.1
  apply Array.toList_inj.1
  simp [mapEntries]; rfl

/-- An event that is due has its effect. -/
theorem onEvent_due (due : State → Bool) (f : State → State) (s : State) (h : due s = true) :
    onEvent due f s = .next (f s) := by
  simp [onEvent, h]

/-- An event that is not due changes nothing. -/
theorem onEvent_not_due (due : State → Bool) (f : State → State) (s : State) (h : due s = false) :
    onEvent due f s = .next s := by
  simp [onEvent, h]

/-- A meaning of either shape always answers a next state. -/
theorem onEvent_next (due : State → Bool) (f : State → State) (s : State) :
    ∃ t, onEvent due f s = .next t := ⟨_, rfl⟩

/-- A start handed to the Output Unit goes on where the channel is idle or its end tick is reached (R155). -/
theorem State.fire_next (s : State) (r : Request)
    (h : ∀ e, s.channel (s.channelOf r.cls) = some e → reached e.endTick s.now = true) :
    ∃ t, s.fire r = .next t := by
  unfold State.fire
  split
  · exact ⟨_, rfl⟩
  · next e he => rw [if_pos (h e he)]; exact ⟨_, rfl⟩

end Sys2Proof.Machine
end

