-- ==== Sys2Proof/Laws/Table.lean ====
section
/-!
SUPPORT. The claim table's shared operations: what insertion and detachment keep, and the search of the
request window.
-/

namespace Sys2Proof.Machine

/-- Insertion adds the record and nothing else, whatever its place (R20, R22). -/
theorem insertRecord_perm (x : ClaimRecord) (l : List ClaimRecord) : (insertRecord x l).Perm (x :: l) := by
  induction l with
  | nil => exact List.Perm.refl _
  | cons y rest ih =>
    unfold insertRecord
    split
    · exact List.Perm.refl _
    · exact (ih.cons y).trans (List.Perm.swap x y rest)

/-- The records after insertion (R22). -/
@[simp] theorem mem_insertRecord (x y : ClaimRecord) (l : List ClaimRecord) :
    y ∈ insertRecord x l ↔ y = x ∨ y ∈ l := by
  rw [(insertRecord_perm x l).mem_iff]; simp

/-- The occupancy rises by one (R22). -/
@[simp] theorem insertRecord_length (x : ClaimRecord) (l : List ClaimRecord) :
    (insertRecord x l).length = l.length + 1 := by
  rw [(insertRecord_perm x l).length_eq]; simp

/-- Insertion keeps every symmetric relation that the new record has with each one present (R21). -/
theorem insertRecord_pairwise (R : ClaimRecord → ClaimRecord → Prop) (hsym : ∀ a b, R a b → R b a)
    (x : ClaimRecord) (l : List ClaimRecord) (hl : l.Pairwise R) (hx : ∀ y ∈ l, R x y) :
    (insertRecord x l).Pairwise R := by
  have h : (x :: l).Pairwise R := List.pairwise_cons.2 ⟨hx, hl⟩
  exact ((insertRecord_perm x l).pairwise_iff (fun h => hsym _ _ h)).2 h

/-- The search finds the first tick that satisfies the condition (R17). -/
theorem firstTick_some (ok : Tick → Bool) (n : Nat) (t u : Tick) (h : firstTick ok n t = some u) :
    ∃ k < n, u = t + BitVec.ofNat 32 k ∧ ok u = true
      ∧ ∀ j < k, ok (t + BitVec.ofNat 32 j) = false := by
  induction n generalizing t with
  | zero => simp [firstTick] at h
  | succ n ih =>
    unfold firstTick at h
    split at h
    · next ht =>
      cases h
      exact ⟨0, by omega, by simp, ht, fun j hj => absurd hj (by omega)⟩
    · next ht =>
      obtain ⟨k, hk, hu, hok, hbefore⟩ := ih (t + 1) h
      refine ⟨k + 1, by omega, ?_, hok, fun j hj => ?_⟩
      · rw [hu, BitVec.add_assoc, BitVec.ofNat_add]; congr 1; exact BitVec.add_comm _ _
      · match j with
        | 0 => simpa using ht
        | j + 1 =>
          have := hbefore j (by omega)
          rw [BitVec.add_assoc] at this
          rw [BitVec.ofNat_add, BitVec.add_comm (BitVec.ofNat 32 j)]
          exact this

/-- The search finds none exactly when no tick satisfies the condition (R17). -/
theorem firstTick_none (ok : Tick → Bool) (n : Nat) (t : Tick) (h : firstTick ok n t = none) :
    ∀ k < n, ok (t + BitVec.ofNat 32 k) = false := by
  induction n generalizing t with
  | zero => intro k hk; omega
  | succ n ih =>
    unfold firstTick at h
    split at h
    · cases h
    · next ht =>
      intro k hk
      match k with
      | 0 => simpa using ht
      | k + 1 =>
        have := ih (t + 1) h k (by omega)
        rw [BitVec.add_assoc] at this
        rw [BitVec.ofNat_add, BitVec.add_comm (BitVec.ofNat 32 k)]
        exact this

end Sys2Proof.Machine
end

