-- ==== Sys2Proof/Laws/Window.lean ====
section
/-!
SUPPORT. What the search of the request window and the builder answer.
-/

namespace Sys2Proof.Machine

/-- Ticks counted from a tick of the window that is given as its distance from now. -/
theorem window_tick (now : Tick) (low : Int) (k : Nat) :
    now + BitVec.ofInt 32 low + BitVec.ofNat 32 k = now + BitVec.ofInt 32 (low + k) := by
  rw [BitVec.add_assoc, BitVec.ofInt_add]; congr 1

/-- The start found lies in the window and satisfies the conditions, and no earlier tick of the window does
(R17). -/
theorem searchWindow_some (s : State) (r : Request) (f u : Tick) (h : searchWindow s r f = some u) :
    ∃ n : Int, windowLow s r f ≤ n ∧ n ≤ windowHigh s r f ∧ u = s.now + BitVec.ofInt 32 n
      ∧ startOk s r u = true
      ∧ ∀ m : Int, windowLow s r f ≤ m → m < n → startOk s r (s.now + BitVec.ofInt 32 m) = false := by
  obtain ⟨k, hk, hu, hok, hbefore⟩ := firstTick_some _ _ _ _ h
  unfold windowLength at hk
  refine ⟨windowLow s r f + k, by omega, by omega, by rw [hu, window_tick], hok, fun m hm hlt => ?_⟩
  have := hbefore (m - windowLow s r f).toNat (by omega)
  rw [window_tick] at this
  rwa [show windowLow s r f + ((m - windowLow s r f).toNat : Int) = m by omega] at this

/-- No start is found only where no tick of the window satisfies the conditions (R17). -/
theorem searchWindow_none (s : State) (r : Request) (f : Tick) (h : searchWindow s r f = none) :
    ∀ n : Int, windowLow s r f ≤ n → n ≤ windowHigh s r f →
      startOk s r (s.now + BitVec.ofInt 32 n) = false := by
  intro n hn hle
  have := firstTick_none _ _ _ h (n - windowLow s r f).toNat (by unfold windowLength; omega)
  rw [window_tick] at this
  rwa [show windowLow s r f + ((n - windowLow s r f).toNat : Int) = n by omega] at this

/-- Where the builder answers a start, there is room, the deadline was not over at the move to SENDING, and
the search found that start (R10, R17, R151). -/
theorem earliestStart_start (s : State) (r : Request) (f t : Tick) :
    earliestStart s r f = .start t
      ↔ s.table.length < 48 ∧ r.overdue = false ∧ searchWindow s r f = some t := by
  cases hr : hasRoom s.table <;> cases ho : r.overdue <;> cases hw : searchWindow s r f <;>
    simp_all [earliestStart, hasRoom]

/-- The builder answers FULL exactly where there is no room (R10, R17). -/
theorem earliestStart_full (s : State) (r : Request) (f : Tick) :
    earliestStart s r f = .full ↔ 48 ≤ s.table.length := by
  cases hr : hasRoom s.table <;> cases ho : r.overdue <;> cases hw : searchWindow s r f <;>
    simp_all [earliestStart, hasRoom]

end Sys2Proof.Machine
end

