-- ==== Sys2Proof/Tests/Slice0.lean ====
section
/-!
SUPPORT. The model's own tests: the checks of WellFormed, the formats and the worked computations of the
spec, and for every statement with hypotheses a concrete state and operands that meet them (`witness_…`).
-/

set_option Elab.async false

namespace Sys2Proof.Tests

open Sys2Proof Sys2Proof.Machine Sys2Proof.Said

/-! ### The station of the spec's examples -/

/-- The 47 bytes of 11.6: station 5, rail group 1, LATCHED, class 2 on channel 0. -/
def imageBytes : List Byte :=
  [3, 232, 10, 0, 20, 0, 100, 0, 200, 4, 19, 136, 5, 1, 0] ++ List.replicate 8 0 ++ [128, 4, 0, 50]
    ++ List.replicate 20 0

/-- The image of 11.6. -/
def image : Image := paramImage imageBytes

/-- The digest of that image; `test_digest` computes it. -/
def digest : Byte := 237

/-- A configured station in a state, at tick 10,000, with the bus idle. -/
def station (st : StationState) : State :=
  { State.reset with
    now := 10000
    ctrl := { State.reset.ctrl with station := st }
    bus := { BusInterface.reset with receive := .outOfFrame 30 }
    port := { State.reset.port with image := some image, digest := some digest } }

/-- A request of class 2 with tag 7. -/
def request (st : RequestState) (start : Option Tick) (mark : Bool) (attempts : Nat) : Request :=
  { tag := 7, cls := 2, notBefore := 10000, deadline := 12000, state := st, attempts := attempts,
    claimSeq := some 3, start := start, mark := mark, overdue := false }

/-- A station with these requests listed. -/
def listing (l : List Request) (s : State) : State := { s with req := { s.req with list := l } }

/-- A station with these records. -/
def tabled (l : List ClaimRecord) (s : State) : State := { s with table := l }

/-- A station whose own frame from this slot is on the bus, with these cells decoded. -/
def onAir (f : Frame) (slot : SlotRef) (won : Bool) (cells : List Cell) (s : State) : State :=
  { s with bus := { s.bus with receive := .inFrame cells
                               transmit := if won then .sending ⟨f, slot⟩ else .arbitrating ⟨f, slot⟩ } }

/-- A station that has decoded these cells of a peer's frame. -/
def hearing (cells : List Cell) (s : State) : State :=
  { s with bus := { s.bus with receive := .inFrame cells } }

/-- A record of owner and sequence with a start tick and a tag. -/
def record (owner : StationId) (seq : Seq) (start : Tick) (st : RecordState) (tag : Option Byte) :
    ClaimRecord :=
  { owner := owner, seq := seq, cls := 2, group := 1, weight := 4, start := start, received := 9700,
    state := st, tag := tag }

/-- A claim of class 2, group 1, weight 4 with an offset. -/
def claim (offset : Offset) : ClaimFields := ⟨2, 1, 4, offset⟩

/-- A frame from a station. -/
def frame (id : StationId) (seq : Seq) (p : Payload) : Frame := ⟨id, seq, digest, p⟩

/-- The roster entry of station `id`. -/
def known (id : StationId) (e : RosterEntry) (s : State) : State := s.setEntry id e

/-! ### Well-formed commands -/

theorem test_knownCodeIsNoUnknownCommand : (Instr.unknownCommand 1).wellFormed = false := by decide
theorem test_knownCodeIsRefused (s : State) :
    exec (.unknownCommand 1) s = .refused .illFormed := by rfl
theorem test_wholeCommandIsNotDiscarded : (Instr.transactionDiscarded [17, 7]).wellFormed = false := by
  decide
theorem test_wholeCommandIsRefused (s : State) :
    exec (.transactionDiscarded [17, 7]) s = .refused .illFormed := by rfl
theorem test_unknownCodeIsACommand : (Instr.unknownCommand 9).wellFormed = true := by decide
theorem test_cutCommandIsDiscarded : (Instr.transactionDiscarded [17]).wellFormed = true := by decide
theorem test_noWordSpellsACommand : decodeTableWord 8 1 = none := by decide

/-! ### Bytes on the local port -/

theorem test_submitBytes : portDecode [16, 9, 2, 0, 0, 117, 48, 0, 0, 128, 232]
    = .submit 9 2 30000 33000 := by decide
theorem test_submitIsSent : portEncode (.submit 9 2 30000 33000)
    = some [16, 9, 2, 0, 0, 117, 48, 0, 0, 128, 232] := by decide
theorem test_furtherBytesAreIgnored : portDecode [34, 1, 2, 3] = .resume := by decide
theorem test_cutSubmitIsDiscarded : portDecode [16, 9, 2] = .transactionDiscarded [16, 9, 2] := by decide
theorem test_emptyTransactionIsDiscarded : portDecode [] = .transactionDiscarded [] := by decide
theorem test_configureBytes : portDecode (48 :: imageBytes) = .configure image := by decide
theorem test_codeNineIsUnknown : portDecode [9, 1] = .unknownCommand 9 := by decide

/-! ### Formats -/

/-- The nine bytes of the ASCII text 123456789, for the two check values. -/
def digits : List Bool := ((List.range 9).map (fun i => bitsOf (BitVec.ofNat 8 (49 + i)))).flatten

theorem test_crc16 : crc16 digits = 0x29B1 := by decide +kernel
theorem test_crc8 : crc8 digits = 0xF4 := by decide +kernel
theorem test_digest : imageDigest image = digest := by decide +kernel
theorem test_imageIsValid : validImage image = true := by decide +kernel
theorem test_imageParams : imageParams image = ⟨1000, 10, 20, 100, 200, 4, 5000⟩ := by decide +kernel
theorem test_imageClass : imageClass image 2 = ⟨true, 0, 4, 50⟩ := by decide +kernel
theorem test_blankImageIsInvalid : validImage blankImage = false := by decide +kernel

theorem test_claimLength : (frame 5 12 (claimOf (claim 633))).cells.length = 75 := by decide +kernel
theorem test_cancelLength : (frame 5 12 (.cancel 41)).cells.length = 58 := by decide +kernel
theorem test_joinLength : (frame 5 12 (.join 1)).cells.length = 50 := by decide +kernel
theorem test_weightFiveCells : field (frame 5 12 (.claim 2 1 5 633)).cells 33 8 = 5 := by decide +kernel
theorem test_claimIsRead :
    checkCells (frame 5 12 (claimOf (claim 633))).cells = .complete (frame 5 12 (claimOf (claim 633))) := by
  decide +kernel
theorem test_kindElevenIsFraming : checkCells [false, true, true] = .failed (.plain .framing none) := by
  decide +kernel

/-! ### The worked computation of 1.7 -/

/-- The three peer records of 1.7. -/
def peers17 : List ClaimRecord :=
  [⟨8, 1, 0, 0, 5, 9700, 9000, .confirmed, none⟩, ⟨9, 2, 0, 1, 3, 10300, 9000, .confirmed, none⟩,
    ⟨10, 3, 0, 2, 2, 10900, 9900, .pending, none⟩]

theorem test_spacingExcludes :
    startOk (tabled peers17 (station .active)) (request .sending none false 0) 10407 = false := by
  decide +kernel
theorem test_budgetExcludes :
    startOk (tabled peers17 (station .active)) (request .sending none false 0) 10707 = false := by
  decide +kernel
theorem test_firstPassingTick :
    startOk (tabled peers17 (station .active)) (request .sending none false 0) 10708 = true := by
  decide +kernel
theorem test_receiverAdmits :
    admissionCheck (imageParams image) 4 peers17 ⟨10708, 4, 1, 633⟩ = .pass := by decide +kernel
theorem test_farNotBeforeIsHorizon :
    earliestStart (tabled peers17 (station .active))
      { request .sending none false 0 with notBefore := 15200, deadline := 20000 } 10075
      = .none .horizon := by
  decide +kernel

theorem test_windowFarApartIsEmpty :
    earliestStart (tabled peers17 (station .active))
      { request .sending none false 0 with notBefore := 10000 + 0x60000000, deadline := 10000 - 0x60000000 }
      10075 = .none .deadline := by
  decide +kernel
theorem test_deadlineTooFarAheadIsPast :
    earliestStart (tabled peers17 (station .active))
      { request .sending none false 0 with deadline := 10000 + 0x80000000 + 300 } 10075 = .none .deadline
    ∧ deadlineOver (station .active)
      { request .waiting none false 0 with deadline := 10000 + 0x80000000 } = true
    ∧ deadlineOver (station .active)
      { request .waiting none false 0 with deadline := 10000 + 0x80000000 - 1 } = false := by
  decide +kernel
theorem test_overdueHeadIsDenied :
    earliestStart (station .active) { request .sending none false 0 with overdue := true } 10075
      = .none .deadline := by
  decide +kernel

theorem test_earliestStart :
    earliestStart (tabled peers17 (station .active)) (request .sending none false 0) 10075
      = .start 10708 := by
  decide +kernel

/-! ### Witnesses: the step -/

theorem witness_stepTakesTheFrontCommand :
    ({ State.reset with pending := [.readTime] } : State).pending = .readTime :: [] := rfl
theorem witness_quietTickOfTheReset :
    State.reset.held.pending = [] ∧ dueEvents State.reset.held = [] ∧ State.reset.held.resetHeld = true := by
  decide +kernel
theorem witness_quietTick : (station .active).pending = [] ∧ dueEvents (station .active) = [] := by
  decide +kernel
/-- A station whose channel 0 reaches its end tick now. -/
def endingPulse (e : Tick) : State :=
  { listing [request .firing (some 9950) false 1] (station .active) with
    out := idleChannels.set 0 (some ⟨7, e⟩) }
theorem witness_dueEvent : (endingPulse 10000).pending = [] ∧ dueEvents (endingPulse 10000) ≠ []
    ∧ isDue (endingPulse 10000) (.channelEnd 0) = true := by
  decide +kernel
theorem witness_takenEvent : isDue (endingPulse 10000) (.channelEnd 0) = true
    ∧ ∃ t, exec (.channelEnd 0) (endingPulse 10000) = .next t :=
  ⟨by decide +kernel, onEvent_next _ _ _⟩
theorem witness_eventNotDue : (portEncode .startBit).isNone = true ∧ Instr.startBit ≠ .powerOnReset
    ∧ Instr.startBit ≠ .resetRelease ∧ Instr.startBit ≠ .resultClockedOut
    ∧ ¬happens State.reset .startBit := by
  refine ⟨rfl, by decide, by decide, by decide, fun h => ?_⟩
  exact absurd h.1 (by decide)
theorem witness_faultOnAHeldChannel :
    exec (.startTickReached 8) (listing [{ request .granted (some 10000) false 1 with tag := 8 },
      request .firing (some 9980) false 1]
        { station .active with out := idleChannels.set 0 (some ⟨7, 10030⟩) }) = .fault .channelHeld := by
  rfl
theorem witness_refusal (s : State) : exec (.unknownCommand 1) s = .refused .illFormed := by rfl

/-! ### Witnesses: resets -/

theorem witness_heldReset : State.reset.held.resetHeld = true ∧ State.reset.held.held = State.reset.held
    ∧ (portEncode .leave).isSome = true ∧ Instr.leave.wellFormed = true
    ∧ ∀ received, Instr.leave ≠ .transactionDiscarded received := by
  refine ⟨rfl, by decide +kernel, rfl, rfl, fun _ h => by cases h⟩
/-- A station in a transaction, with these coming levels of CS_N. -/
def inTransaction (t : Transaction) (selects : List Bool) (s : State) : State :=
  { s with port := { s.port with transaction := t, selects := selects } }
theorem test_resetDiscardsTheTransaction : let s := inTransaction .receiving [true, false, true] (station .active)
    s.held.port.transaction = .discarded
      ∧ s.held.tick.port.transaction = .discarded
      ∧ s.held.tick.tick.port.transaction = .idle
      ∧ s.held.tick.tick.tick.port.transaction = .discarded := by
  decide +kernel
theorem test_discardedTakesNothing (s : State) :
    exec .readTime (inTransaction .discarded [] s) = .next (inTransaction .discarded [] s) := by
  simp [exec, execReadTime, inTransaction]
theorem witness_heldInvSteps : heldInv State.reset.held ∧ ∃ t, step State.reset.held = .next t :=
  ⟨fun _ => by decide +kernel, ⟨_, rfl⟩⟩

/-! ### Witnesses: the local port -/

theorem witness_portOpen : portOpen State.reset := by decide
/-- An entry of the error record with every part present. -/
def errorEntry : ErrorEntry :=
  ⟨⟨.checkFail, some ⟨9, .claim, 4, true⟩, some 5, some (claim 633), some 6⟩, 10000, .active⟩
theorem witness_errorRecord :
    portOpen { station .active with log := { State.reset.log with record := some errorEntry } }
      ∧ portOpen (station .active) ∧ (station .active).log.record = none := by decide
theorem witness_readTable : let s := tabled peers17 (station .active)
    portOpen s ∧ s.table[(2 : Byte).toNat]? = some ⟨10, 3, 0, 2, 2, 10900, 9900, .pending, none⟩
      ∧ (2 : Byte).toNat ≤ 47
      ∧ s.table.length ≤ (3 : Byte).toNat ∧ s.table.length ≤ (47 : Byte).toNat ∧ (47 : Byte).toNat ≤ 47
      ∧ 47 < (48 : Byte).toNat := by
  decide
theorem witness_readRoster : (31 : StationId).toNat = (31 : Byte).toNat ∧ 31 < (32 : Byte).toNat := by
  decide
theorem witness_query : let s := listing [request .waiting none false 0] (station .active)
    portOpen s ∧ request .waiting none false 0 ∈ s.req.list ∧ tagsDiffer s
      ∧ ∀ r ∈ s.req.list, r.tag ≠ 8 := by
  decide
/-- A queued result. -/
def result : ResultEntry := ⟨7, .done, .none, some 9950, 1⟩
theorem witness_fetch : portOpen (station .active) ∧ (station .active).port.results = []
    ∧ ({ station .active with port := { (station .active).port with results := [result] } } :
        State).port.results = result :: []
    ∧ (inTransaction (.answered 0 .ok result.bytes true) [] (station .active)).port.transaction
        = .answered 0 .ok result.bytes true
    ∧ ∀ wait st bytes, State.reset.port.transaction ≠ .answered wait st bytes true := by
  refine ⟨by decide, rfl, rfl, rfl, fun _ _ _ => by simp [State.reset]⟩
/-- A full list and queue, with the first result being clocked out. -/
def fullCredit : State :=
  let s := inTransaction (.answered 0 .ok result.bytes true) [] (station .active)
  { s with port := { s.port with results := List.replicate 16 result } }
theorem test_submitBeforeTheEighthByte : ∃ t, exec (.submit 9 2 10000 12000) fullCredit = .next t
    ∧ t.port.results.length = 16 ∧ t.port.fetchEnding = true
    ∧ exec .resultClockedOut t
      = .next { t with port := { t.port with results := List.replicate 15 result, fetchEnding := false } } :=
  ⟨_, rfl, rfl, rfl, rfl⟩
theorem test_riseOfSelectEndsTheTransaction :
    (inTransaction (.answered 0 .ok result.bytes true) [] (station .active)).tick.port.transaction = .idle
    ∧ (inTransaction .idle [true] (station .active)).tick.port.transaction = .receiving
    ∧ (inTransaction (.answered 2 .ok [] false) [true] (station .active)).tick.port.transaction
      = .answered 1 .ok [] false := by
  decide
theorem test_statusIsNeverReadyAtTheTaking (s : State) (h : s.resetHeld = false) :
    (s.answer .ok []).sdo 0 = some 255 :=
  State.sdo_reply s .ok [] false 0 h
theorem witness_sdo : State.reset.port.transaction = .idle
    ∧ (inTransaction .receiving [] (station .active)).port.transaction = .receiving
    ∧ (inTransaction (.answered 0 .ok [] false) [] (station .active)).port.transaction = .answered 0 .ok [] false
    ∧ (station .active).resetHeld = false := ⟨rfl, rfl, rfl, rfl⟩

/-! ### Witnesses: CANCEL and ABORT -/

/-- Both CANCEL slots occupied. -/
def slotsFull (s : State) : State := { s with req := { s.req with cancelSlots := [⟨1, 20, false⟩, ⟨2, 21, false⟩] } }
/-- The own claim on the bus, from the slot of tag 7. -/
def claimOnAir (s : State) : State := onAir (frame 5 3 (claimOf (claim 633))) (.claim 7) true [false] s
/-- What every clause of the CANCEL statement asks of a listed request with tag 7. -/
def cancels (s : State) (r : Request) : Bool :=
  decide (portOpen s ∧ r ∈ s.req.list ∧ r.tag = 7 ∧ tagsDiffer s)
/-- A station that lists one request with tag 7. -/
def with7 (r : Request) : State := listing [r] (station .active)
theorem witness_cancelNoTag : portOpen (with7 (request .waiting none false 0))
    ∧ ∀ r ∈ (with7 (request .waiting none false 0)).req.list, r.tag ≠ 8 := by
  decide +kernel
theorem witness_cancelWaiting : let r := request .waiting none false 0
    cancels (with7 r) r = true ∧ r.state = .waiting := by
  decide +kernel
theorem witness_cancelSendingInItsSlot : let r := request .sending none false 0
    cancels (with7 r) r = true ∧ r.state = .sending ∧ (with7 r).onBus (.claim 7) = false
      ∧ (with7 r).req.claimSlot = none := by
  decide +kernel
/-- A station whose claim of tag 7 may begin at this boundary, with a second request behind it. -/
def claimMayBegin : State :=
  let s := listing [request .sending none false 0, { request .waiting none false 0 with tag := 8 }]
    (station .active)
  { s with req := { s.req with claimSlot := some 7 } }
theorem witness_cancelAtTheBoundary : let r := request .sending none false 0
    let s := claimMayBegin
    cancels s r = true ∧ r.state = .sending ∧ s.onBus (.claim 7) = false ∧ s.ctrl.station = .active
      ∧ s.req.cancelSlots = [] ∧ s.req.claimSlot = some 7 ∧ boundary s 30 ∧ s.bus.defer = false := by
  decide +kernel
theorem test_noFrameAtACancelledBoundary : ∃ t u, exec (.cancel 7) claimMayBegin = .next t
    ∧ exec .headToSending t = .next u ∧ u.req.claimSlot = some 8 ∧ attemptDue u = false
    ∧ attemptDue claimMayBegin = true :=
  ⟨_, _, rfl, rfl, by decide +kernel, by decide +kernel, by decide +kernel⟩
theorem witness_cancelSendingOnTheBus : let r := request .sending none false 0
    let s := claimOnAir (with7 r)
    cancels s r = true ∧ r.state = .sending ∧ s.onBus (.claim 7) = true ∧ r.mark = false
      ∧ s.req.cancelSlots.length < 2 := by
  decide +kernel
theorem witness_cancelSendingSlotsFull : let r := request .sending none false 0
    let s := slotsFull (claimOnAir (with7 r))
    cancels s r = true ∧ r.state = .sending ∧ s.onBus (.claim 7) = true ∧ r.mark = false
      ∧ 2 ≤ s.req.cancelSlots.length := by
  decide +kernel
theorem witness_cancelMarked : let r := request .sending none true 0
    let s := claimOnAir (with7 r)
    cancels s r = true ∧ r.state = .sending ∧ s.onBus (.claim 7) = true ∧ r.mark = true := by
  decide +kernel
theorem witness_cancelCancelling : let r := request .cancelling (some 10500) false 1
    cancels (with7 r) r = true ∧ r.state = .cancelling := by
  decide +kernel
theorem witness_cancelPendingWithoutStart : let r := request .pending none false 1
    cancels (with7 r) r = true ∧ r.state = .pending ∧ r.start = none := by
  decide +kernel
theorem witness_cancelPendingWithStart : let r := request .pending (some 10500) false 1
    cancels (with7 r) r = true ∧ r.state = .pending ∧ r.start ≠ none
      ∧ (with7 r).req.cancelSlots.length < 2 := by
  decide +kernel
/-- A station with an idle bus and a GRANTED request whose start tick is now. -/
def startsNow : State := with7 (request .granted (some 10000) false 1)
theorem witness_cancelAtTheStart : let r := request .granted (some 10000) false 1
    cancels startsNow r = true ∧ r.state = .granted ∧ r.start = some 10000
      ∧ reached 10000 startsNow.now = true ∧ startsNow.req.cancelSlots = []
      ∧ startsNow.onBus (.cancel 7) = false := by
  decide +kernel
theorem test_startFindsTheCancelInItsSlot : ∃ t u, exec (.cancel 7) startsNow = .next t
    ∧ dueEvents t = [.startTickReached 7] ∧ exec (.startTickReached 7) t = .next u
    ∧ u.req.list = [] ∧ u.req.cancelSlots = []
    ∧ u.port.results = [⟨7, .cancelled, .none, none, 1⟩] :=
  ⟨_, _, rfl, by decide +kernel, rfl, by decide +kernel, by decide +kernel, by decide +kernel⟩
theorem test_cancelBeforeTheStartBegins : ∃ t, exec (.cancel 7)
      (with7 (request .granted (some 10001) false 1)) = .next t
    ∧ dueEvents t = [.attemptStart] :=
  ⟨_, rfl, by decide +kernel⟩
theorem witness_cancelGrantedSlotsFull : let r := request .granted (some 10500) false 1
    let s := slotsFull (with7 r)
    cancels s r = true ∧ r.state = .granted ∧ 2 ≤ s.req.cancelSlots.length := by
  decide +kernel
theorem witness_cancelFiring : let r := request .firing (some 9950) false 1
    cancels (with7 r) r = true ∧ r.state = .firing := by
  decide +kernel
theorem witness_abort : let s := endingPulse 10030
    portOpen s ∧ 3 < (4 : Byte).toNat ∧ (3 : Channel).toNat = (3 : Byte).toNat ∧ s.channel 3 = none
      ∧ (0 : Channel).toNat = (0 : Byte).toNat ∧ s.channel 0 = some ⟨7, 10030⟩
      ∧ request .firing (some 9950) false 1 ∈ s.req.list ∧ tagsDiffer s := by
  decide +kernel

/-! ### Witnesses: configuration and the moves of the station -/

theorem witness_image : (station .active).port.image = some image := rfl
theorem witness_configure : imageBytes.length = 47 ∧ (imageBytes.drop 1).length < 47 := by decide
theorem witness_imageAccepted : accepted image := by decide +kernel
/-- Each condition of R7 refused by one image: one byte changed. -/
def spoilt (i : Nat) (b : Byte) : Image := paramImage (imageBytes.set i b)
theorem witness_imagesNotAccepted :
    ∀ e ∈ ([(5, 4), (2, 0), (4, 0), (6, 19), (8, 15), (9, 64), (10, 0), (12, 32), (13, 4), (14, 2), (23, 132),
      (24, 11), (26, 0), (23, 0)] : List (Nat × Byte)), ¬accepted (spoilt e.1 e.2) := by
  decide +kernel
/-- A configured station in OFFLINE, and the line held low by a peer. -/
def offline (low : Bool) : State :=
  { State.reset with
    port := { State.reset.port with image := some image }
    stop := { State.reset.stop with peersLow := low } }
/-- The agreement of a station with its state where it receives nothing and no frame is on the bus. -/
theorem stationInv_of_quiet (s : State) (hq : s.bus.transmit = .quiet)
    (h : controllerInv s ∧ configInv s ∧ withdrawnInv s ∧ requestsByStateInv s ∧ monitorInv s
      ∧ quiesceInv s) : stationInv s := by
  obtain ⟨h1, h2, h3, h4, h5, h6⟩ := h
  refine ⟨h1, h2, h3, h4, fun x hx => ?_, h5, h6⟩
  rw [hq] at hx; cases hx
theorem witness_joinHigh : portOpen (offline false) ∧ stationInv (offline false)
    ∧ (offline false).ctrl.station = .offline ∧ (offline false).port.image = some image
    ∧ stopIsLow (offline false) = false := by
  refine ⟨by decide, stationInv_of_quiet _ rfl ?_, rfl, rfl, by decide +kernel⟩
  unfold controllerInv configInv withdrawnInv requestsByStateInv monitorInv quiesceInv
  decide +kernel
theorem witness_joinLow : portOpen (offline true) ∧ stationInv (offline true)
    ∧ stopIsLow (offline true) = true := by
  refine ⟨by decide, stationInv_of_quiet _ rfl ?_, by decide +kernel⟩
  unfold controllerInv configInv withdrawnInv requestsByStateInv monitorInv quiesceInv
  decide +kernel
theorem witness_joinUnconfigured : portOpen State.reset ∧ stationInv State.reset
    ∧ State.reset.ctrl.station = .offline ∧ ∀ img ∈ State.reset.port.image, ¬accepted img := by
  refine ⟨by decide, stationInv_of_quiet _ rfl ?_, rfl, fun img h => by cases h⟩
  unfold controllerInv configInv withdrawnInv requestsByStateInv monitorInv quiesceInv
  decide +kernel
/-- A station in SILENT. -/
def silentStation (low : Bool) : State :=
  { offline low with
    ctrl := { State.reset.ctrl with station := .silent }
    port := { (offline low).port with digest := some digest } }
theorem witness_resume : portOpen (silentStation true) ∧ stationInv (silentStation true)
    ∧ (silentStation true).ctrl.station = .silent ∧ stopIsLow (silentStation true) = true
    ∧ stationInv (silentStation false) ∧ stopIsLow (silentStation false) = false := by
  refine ⟨by decide, stationInv_of_quiet _ rfl ?_, rfl, by decide +kernel, stationInv_of_quiet _ rfl ?_,
    by decide +kernel⟩ <;>
  · unfold controllerInv configInv withdrawnInv requestsByStateInv monitorInv quiesceInv
    decide +kernel
theorem witness_leave : portOpen (station .active) ∧ (station .active).ctrl.station ≠ .offline
    ∧ State.reset.ctrl.station = .offline := by
  decide
theorem witness_strayBytes : paramCount 9 = none ∧ spellsCommand [17] = false := by decide
theorem witness_portBytes : (Instr.query 7).wellFormed = true ∧ portEncode (.query 7) = some [5, 7]
    ∧ ∀ received, Instr.query 7 ≠ .transactionDiscarded received := by
  refine ⟨rfl, rfl, fun _ h => by cases h⟩

/-! ### Witnesses: LINK -/

/-- A station with its receive side replaced. -/
def receiving (r : Receive) (s : State) : State := { s with bus := { s.bus with receive := r } }
theorem witness_synchronisation :
    (station .listening).ctrl.station.receiving = true
      ∧ (receiving (.unsynchronised 24) (station .listening)).bus.receive = .unsynchronised 24
      ∧ (receiving (.outOfFrame 24) { station .active with bus :=
          { (station .active).bus with defer := true } }).bus.defer = true
      ∧ ({ station .active with bus := { (station .active).bus with lastCell := false } } :
          State).bus.lastCell = false := by
  decide
/-- A station at a cell boundary with idle count 8, the least that a frame may begin at. -/
def atBoundary (st : StationState) : State := receiving (.outOfFrame 8) (station st)
theorem witness_boundary : boundary (atBoundary .active) 8 ∧ boundary (atBoundary .listening) 8
    ∧ (atBoundary .active).port.digest = some digest := by
  decide +kernel
theorem witness_cancelBegins : let s := slotsFull (atBoundary .active)
    boundary s 8 ∧ s.ctrl.station = .active ∧ s.req.cancelSlots = [] ++ ⟨1, 20, false⟩ :: [⟨2, 21, false⟩] := by
  decide +kernel
/-- A station with the claim of tag 7 in the CLAIM slot. -/
def claimWaits (s : State) : State :=
  { s with req := { s.req with list := [request .sending none false 0], claimSlot := some 7 } }
theorem witness_claimBegins : let s := claimWaits (tabled peers17 (atBoundary .active))
    boundary s 8 ∧ s.req.cancelSlots = [] ∧ s.bus.defer = false
      ∧ request .sending none false 0 ∈ s.req.list ∧ tagsDiffer s ∧ s.req.claimSlot = some 7 := by
  decide +kernel
theorem test_deferClearsAtTheAttempt : let s : State := { claimMayBegin with
      bus := { claimMayBegin.bus with receive := .outOfFrame 24, defer := true } }
    ∃ t, exec .attemptStart s = .next t ∧ t.bus.defer = false ∧ idle24Due s = true :=
  ⟨_, rfl, by decide +kernel, by decide +kernel⟩
theorem witness_claimStart :
    earliestStart (claimWaits (tabled peers17 (atBoundary .active))) (request .sending none false 0) 10075
      = .start 10708 := by
  decide +kernel
theorem witness_claimNone :
    earliestStart (claimWaits (tabled peers17 (atBoundary .active)))
      { request .sending none false 0 with deadline := 10300 } 10075 = .none .deadline := by
  decide +kernel
theorem witness_claimFull :
    earliestStart (claimWaits (tabled (List.replicate 48 (record 8 1 9700 .confirmed none))
      (atBoundary .active))) (request .sending none false 0) 10075 = .full := by
  decide +kernel
/-- The own claim frame of the examples, and the first cells of it. -/
def ownClaim : Frame := frame 5 3 (claimOf (claim 633))
theorem witness_claimLost (mark : Bool) : let r := request .sending none mark 0
    let s := onAir ownClaim (.claim 7) false [false, false, false] (with7 r)
    s.bus.transmit = .arbitrating ⟨ownClaim, .claim 7⟩ ∧ s.bus.receive = .inFrame [false, false, false]
      ∧ ([false, false, false] : List Cell).getLast? = some false ∧ ownClaim.cells[3 - 1]? = some true
      ∧ r ∈ s.req.list ∧ tagsDiffer s ∧ s.ctrl.moveWaits = false ∧ r.state = .sending ∧ r.mark = mark := by
  cases mark <;> decide +kernel
/-- The own CANCEL frame of the examples. -/
def ownCancel : Frame := frame 5 3 (.cancel 2)
theorem witness_cancelLost : let r := request .cancelling (some 10000) false 1
    let cells : List Cell := List.replicate 6 false
    let s := onAir ownCancel (.cancel 7) false cells (with7 r)
    s.bus.transmit = .arbitrating ⟨ownCancel, .cancel 7⟩ ∧ s.bus.receive = .inFrame cells
      ∧ cells.getLast? = some false ∧ ownCancel.cells[cells.length - 1]? = some true
      ∧ r ∈ s.req.list ∧ tagsDiffer s ∧ s.ctrl.moveWaits = false ∧ r.state = .cancelling
      ∧ reached 10000 s.now = true ∧ reached 10001 s.now = false := by
  decide +kernel
theorem witness_joinLost (moveWaits : Bool) :
    let f := frame 5 3 (.join 1)
    let s := onAir f .join false [false, false] { station .listening with
      ctrl := { (station .listening).ctrl with moveWaits := moveWaits } }
    s.bus.transmit = .arbitrating ⟨f, .join⟩ ∧ f.cells[2 - 1]? = some true
      ∧ ([false, false] : List Cell).getLast? = some false ∧ s.ctrl.station = .listening
      ∧ s.ctrl.moveWaits = moveWaits := by
  cases moveWaits <;> decide +kernel
theorem witness_arbitrationWon : let cells := ownClaim.cells.take 8
    let s := onAir ownClaim (.claim 7) false cells (station .active)
    s.bus.transmit = .arbitrating ⟨ownClaim, .claim 7⟩ ∧ s.bus.receive = .inFrame cells
      ∧ cells.length = 8 := by
  decide +kernel
theorem witness_readbackOfAClaim (mark : Bool) : let r := request .sending none mark 0
    let s := onAir ownClaim (.claim 7) true [false, true] (with7 r)
    s.bus.transmit = .sending ⟨ownClaim, .claim 7⟩ ∧ (false : Cell) ≠ true
      ∧ s.bus.receive = .inFrame [false, true] ∧ ([false, true] : List Cell).getLast? = some true
      ∧ ownClaim.cells[2 - 1]? = some false ∧ r ∈ s.req.list ∧ tagsDiffer s ∧ s.ctrl.moveWaits = false
      ∧ r.state = .sending := by
  cases mark <;> decide +kernel
theorem witness_readbackOfACancel : let r := request .cancelling (some 10000) false 1
    let s := onAir ownCancel (.cancel 7) false [true] (with7 r)
    s.bus.transmit = .arbitrating ⟨ownCancel, .cancel 7⟩ ∧ ownCancel.cells[1 - 1]? = some false
      ∧ ([true] : List Cell).getLast? = some true ∧ r ∈ s.req.list ∧ tagsDiffer s
      ∧ s.ctrl.moveWaits = false ∧ r.state = .cancelling := by
  decide +kernel
theorem witness_readbackOfAJoin : let f := frame 5 3 (.join 1)
    let s := onAir f .join false [true] (station .listening)
    s.bus.transmit = .arbitrating ⟨f, .join⟩ ∧ f.cells[1 - 1]? = some false
      ∧ ([true] : List Cell).getLast? = some true := by
  decide +kernel

/-! ### Witnesses: completed frames -/

/-- The own frame of a payload, sent and read back whole. -/
def completed (p : Payload) (slot : SlotRef) (s : State) : State :=
  onAir (frame 5 3 p) slot true (frame 5 3 p).cells s
theorem witness_completedJoin (moveWaits : Bool) :
    let s := completed (.join 1) .join { station .listening with
      ctrl := { (station .listening).ctrl with moveWaits := moveWaits } }
    sent s (frame 5 3 (.join 1)) .join ∧ (frame 5 3 (.join 1)).payload = .join 1
      ∧ s.ctrl.station = .listening ∧ s.ctrl.moveWaits = moveWaits :=
  ⟨⟨rfl, rfl⟩, rfl, rfl, rfl⟩
/-- A CANCELLING request, its record and its own CANCEL. -/
def cancelDone (table : List ClaimRecord) : State :=
  completed (.cancel 2) (.cancel 7) (tabled table
    (listing [request .cancelling (some 10708) false 1] (station .active)))
theorem witness_completedCancel :
    let s := cancelDone [record 5 2 10708 .pending (some 7)]
    let x := record 5 2 10708 .pending (some 7)
    sent s (frame 5 3 (.cancel 2)) (.cancel 7) ∧ s.ctrl.station = .active ∧ tagsDiffer s
      ∧ inSequence s (frame 5 3 (.cancel 2)) ∧ s.req.claimSlot ≠ some 7 ∧ (5 : StationId) = s.ownId
      ∧ x ∈ s.table ∧ x.owner = 5 ∧ x.seq = 2 ∧ x.tag = some 7
      ∧ ∀ y ∈ s.table, y.owner = 5 → y.seq = 2 → y = x := by
  refine ⟨⟨rfl, rfl⟩, ?_⟩
  decide +kernel
theorem witness_completedCancelOfNothing :
    ∀ x ∈ (cancelDone []).table, ¬(x.owner = 5 ∧ x.seq = 2) := by
  decide
/-- The own claim of the examples completed, over a table. -/
def claimDone (mark : Bool) (attempts : Nat) (table : List ClaimRecord) : State :=
  completed (claimOf (claim 633)) (.claim 7) (tabled table
    { station .active with req := { State.reset.req with
        list := [request .sending none mark attempts], claimSlot := some 7 } })
theorem witness_completedClaim (mark : Bool) :
    let s := claimDone mark 0 []
    sent s ownClaim (.claim 7) ∧ ownClaim.payload = claimOf (claim 633) ∧ s.ctrl.station = .active
      ∧ request .sending none mark 0 ∈ s.req.list ∧ tagsDiffer s :=
  ⟨⟨rfl, rfl⟩, rfl, rfl, by cases mark <;> decide +kernel, by
    cases mark <;> decide +kernel⟩
theorem witness_completedClaimAdmitted : let s := claimDone false 0 []
    sent s ownClaim (.claim 7) ∧ s.ctrl.station = .active ∧ inSequence s ownClaim ∧ (s.entry ownClaim.id).group = none ∧ admitted s ownClaim (claim 633) := by
  decide +kernel
theorem witness_completedClaimRefusedTwice :
    let s := claimDone false 0 [record 5 3 12000 .confirmed none]
    ∃ x ∈ s.table, x.owner = ownClaim.id ∧ x.seq = ownClaim.seq := by
  decide +kernel
theorem witness_completedClaimRefusedFit :
    let s := claimDone false 2 [record 9 3 10650 .confirmed none]
    (∀ x ∈ s.table, ¬(x.owner = ownClaim.id ∧ x.seq = ownClaim.seq))
      ∧ admissionCheck s.params s.params.G s.table
          ⟨s.now + (633 : Offset).setWidth 32, (4 : Byte).toNat, 1, (633 : Offset).toNat⟩ = .fit
      ∧ (request .sending none false 2).attempts = 2 := by
  decide +kernel
theorem witness_completedClaimRefusedRange :
    let s := claimDone true 0 []
    admissionCheck s.params s.params.G s.table
        ⟨s.now + (207 : Offset).setWidth 32, (4 : Byte).toNat, 1, (207 : Offset).toNat⟩ = .range
      ∧ (request .sending none true 0).mark = true := by
  decide +kernel
theorem witness_completedClaimStoppedBySequence :
    let s := known 5 ⟨true, some 1, some 4, none⟩ (claimDone false 0 [])
    (s.entry ownClaim.id).expectation = some 4 ∧ (4 : Seq) ≠ ownClaim.seq := by
  decide +kernel
theorem witness_completedClaimStoppedByGroup :
    let s := known 5 ⟨true, some 2, none, none⟩ (claimDone false 0 [])
    inSequence s ownClaim ∧ (s.entry ownClaim.id).group = some 2 ∧ (2 : Group) ≠ (claim 633).group := by
  decide +kernel

/-! ### Witnesses: received frames -/

/-- A peer's frame of a payload, heard whole. -/
def peerFrame (p : Payload) : Frame := frame 9 3 p
/-- A station that has heard a frame whole. -/
def heardWhole (f : Frame) (s : State) : State := hearing f.cells s
theorem witness_peerJoin : let f := peerFrame (.join 1)
    let s := heardWhole f (station .quiesce)
    arrived s f ∧ goodFromPeer s f ∧ f.payload = .join 1 := by
  decide +kernel
theorem witness_peerOutOfSequence : let f := peerFrame (.cancel 2)
    let s := known 9 ⟨true, some 1, some 4, none⟩ (heardWhole f (station .active))
    arrived s f ∧ goodFromPeer s f ∧ f.kind ≠ .join ∧ (s.entry f.id).expectation = some 4
      ∧ (4 : Seq) ≠ f.seq := by
  decide +kernel
theorem witness_peerOtherGroup : let f := peerFrame (claimOf (claim 633))
    let s := known 9 ⟨true, some 2, some 3, none⟩ (heardWhole f (station .active))
    arrived s f ∧ goodFromPeer s f ∧ inSequence s f ∧ (s.entry f.id).group = some 2
      ∧ (2 : Group) ≠ (claim 633).group := by
  decide +kernel
theorem witness_peerClaimAdmitted : let f := peerFrame (claimOf (claim 633))
    let s := heardWhole f (station .listening)
    arrived s f ∧ goodFromPeer s f ∧ f.payload = claimOf (claim 633) ∧ s.ctrl.station = .listening
      ∧ inSequence s f ∧ (s.entry f.id).group = none ∧ admitted s f (claim 633) := by
  decide +kernel
theorem witness_peerClaimTwice : let f := peerFrame (claimOf (claim 633))
    let s := tabled [record 9 3 12000 .confirmed none] (heardWhole f (station .active))
    arrived s f ∧ goodFromPeer s f ∧ inSequence s f ∧ (s.entry f.id).group = none
      ∧ ∃ x ∈ s.table, x.owner = f.id ∧ x.seq = f.seq := by
  decide +kernel
theorem witness_peerClaimFit : let f := peerFrame (claimOf (claim 633))
    let s := tabled [record 8 3 10650 .confirmed none] (heardWhole f (station .active))
    arrived s f ∧ goodFromPeer s f ∧ inSequence s f ∧ (s.entry f.id).group = none
      ∧ (¬∃ x ∈ s.table, x.owner = f.id ∧ x.seq = f.seq)
      ∧ admissionCheck s.params s.params.G s.table
          ⟨s.now + (633 : Offset).setWidth 32, (4 : Byte).toNat, 1, (633 : Offset).toNat⟩ = .fit := by
  decide +kernel
theorem witness_peerClaimRange : let f := peerFrame (claimOf (claim 207))
    let s := heardWhole f (station .active)
    arrived s f ∧ goodFromPeer s f ∧ inSequence s f ∧ (s.entry f.id).group = none
      ∧ admissionCheck s.params s.params.G s.table
          ⟨s.now + (207 : Offset).setWidth 32, (4 : Byte).toNat, 1, (207 : Offset).toNat⟩ = .range := by
  decide +kernel
theorem witness_peerClaimInQuiesce : let f := peerFrame (claimOf (claim 633))
    let s := heardWhole f (station .quiesce)
    arrived s f ∧ goodFromPeer s f ∧ inSequence s f ∧ s.ctrl.station = .quiesce := by
  decide +kernel
theorem witness_peerCancel : let f := peerFrame (.cancel 2)
    let s := tabled [record 9 2 10708 .pending none] (heardWhole f (station .active))
    arrived s f ∧ goodFromPeer s f ∧ f.payload = .cancel 2 ∧ inSequence s f
      ∧ ∃ x ∈ s.table, x.owner = f.id ∧ x.seq = 2 := by
  decide +kernel
theorem witness_peerCancelOfNothing : let f := peerFrame (.cancel 2)
    let s := heardWhole f (station .listening)
    arrived s f ∧ goodFromPeer s f ∧ inSequence s f ∧ s.ctrl.station = .listening
      ∧ ∀ x ∈ s.table, ¬(x.owner = f.id ∧ x.seq = 2) := by
  decide +kernel
/-- A frame that bears the station's own id, from elsewhere. -/
def ownIdFrame : Frame := frame 5 9 (.join 1)
theorem witness_identity : let s := heardWhole ownIdFrame (station .active)
    arrived s ownIdFrame ∧ s.port.digest = some ownIdFrame.digest ∧ ownIdFrame.id = s.ownId := by
  decide +kernel
/-- A station whose short drive has begun, or not. -/
def drivingShort (start : Tick) (s : State) : State :=
  { s with stop := { s.stop with drive := .driving .short start (start + 24) false } }
theorem witness_identityDrive :
    (driven (drivingShort 9999 (station .active)) .long).driveBegun = true
      ∧ (driven (station .active) .long).driveBegun = false := by
  decide +kernel
theorem witness_foreignFrame : let f := { ownIdFrame with digest := 1 }
    let s := heardWhole f (station .listening)
    arrived s f ∧ s.port.digest ≠ some f.digest ∧ s.ctrl.station = .listening := by
  decide +kernel
theorem witness_malformed (cells : List Cell) : let s := hearing cells (station .active)
    s.ctrl.station.receiving = true ∧ s.bus.transmit = .quiet ∧ s.bus.receive = .inFrame cells :=
  ⟨rfl, rfl, rfl⟩
theorem witness_malformedKind : let cells : List Cell := [false, true, true]
    cells.length = 3 ∧ field cells 1 2 = 3 := by
  decide
theorem witness_malformedFill : let cells := (ownIdFrame.cells.take 31) ++ [false]
    cells.length = 32 ∧ field cells 1 2 = 2 ∧ cells.getLast? = some false := by
  decide +kernel
theorem witness_malformedCrc : let cells := (ownIdFrame.cells.take 47) ++ [!ownIdFrame.cells.getD 47 true]
    kindOf cells = some .join ∧ cells.length = FrameKind.join.crcAt + 16
      ∧ cells[30]? = some true ∧ cells[31]? = some true
      ∧ field cells FrameKind.join.crcAt 16 ≠ (crc16 ((cells.take FrameKind.join.crcAt).drop 1)).toNat := by
  decide +kernel
theorem witness_malformedDelimiter : let cells := (ownClaim.cells.take 74) ++ [false]
    kindOf cells = some .claim ∧ cells.length = FrameKind.claim.crcAt + 18
      ∧ field cells FrameKind.claim.crcAt 16 = (crc16 ((cells.take FrameKind.claim.crcAt).drop 1)).toNat
      ∧ cells.getLast? = some false := by
  decide +kernel

/-! ### Witnesses: detections, the stop line and recovery -/

theorem witness_detection : (Detection.plain .crc none).kind ≠ .identity
    ∧ (station .active).log.record = none ∧ (station .active).tolerance = .latched
    ∧ ({ station .active with log := { State.reset.log with record := some errorEntry } } :
        State).log.record ≠ none := by
  decide +kernel
theorem test_driverPullsForItsTicks :
    ([9999, 10000, 10023, 10024] : List Tick).map (fun n =>
      ({ drivingShort 10000 (station .active) with now := n } : State).stopLow) = [false, true, true, false] := by
  decide
theorem test_ownCellIsOnLink : let s := onAir (frame 5 3 (.join 1)) .join false [false] (station .listening)
    s.bus.level = true ∧ linkDriver s.bus = true
      ∧ linkDriver (onAir (frame 5 3 (.join 1)) .join false [false, true] (station .listening)).bus = false := by
  decide +kernel
theorem witness_drive : let s := drivingShort 10000 (station .active)
    s.stop.drive = .driving .short 10000 10024 false ∧ reached 10000 s.now = true
      ∧ reached 9976 s.now = true := by
  decide
/-- A station that samples the line low. -/
def lineDown (s : State) : State := { s with stop := { s.stop with peersLow := true } }
/-- A station with one request of each kind that a fall meets. -/
def busyStation (attempts : Nat) : State :=
  lineDown (tabled [record 5 3 10708 .pending (some 7)]
    (listing [request .pending (some 10708) false attempts, { request .waiting none false 0 with tag := 8 }]
      (station .active)))
theorem witness_fall : let s := busyStation 3
    tagsDiffer s ∧ ownTagsDiffer s ∧ s.ctrl.station.receiving = true ∧ s.stop.lineLow = false
      ∧ stopIsLow s = true ∧ s.stop.lineTaken = false ∧ fallDue s = true := by
  decide +kernel
theorem witness_fallRequests (attempts : Nat) (h : attempts ≤ 3) : requestInv (busyStation attempts)
    ∧ slotInv (busyStation attempts) ∧ ∃ t, exec .stopFall (busyStation attempts) = .next t := by
  refine ⟨?_, ?_, onEvent_next _ _ _⟩
  · interval_cases attempts <;> (unfold requestInv; decide +kernel)
  · refine ⟨?_, ?_, (by intro c hc; cases hc), ?_, ?_⟩
    · intro r hr; simp [busyStation, lineDown, tabled, listing, request] at hr; rcases hr with rfl | rfl <;> simp
    · intro g h; cases h
    · intro r hr; simp [busyStation, lineDown, tabled, listing, request] at hr; rcases hr with rfl | rfl <;> simp
    · exact ⟨nofun, fun c hc => absurd hc (List.not_mem_nil)⟩
theorem witness_fallTied : tieInv (busyStation 2) ∧ request .pending (some 10708) false 2 ∈ (busyStation 2).req.list := by
  refine ⟨⟨?_, ?_, by decide +kernel, by decide +kernel, by intro c hc; cases hc⟩, by decide +kernel⟩
  · intro x hx _ g hg
    simp only [busyStation, lineDown, tabled, List.mem_singleton] at hx
    subst hx; cases hg
    exact ⟨request .pending (some 10708) false 2, by decide +kernel, rfl, rfl, rfl, rfl, rfl, rfl⟩
  · intro r hr ha
    simp only [busyStation, lineDown, tabled, listing, List.mem_cons, List.not_mem_nil, or_false] at hr
    rcases hr with rfl | rfl
    · exact ⟨_, List.mem_singleton.2 rfl, by decide +kernel, rfl⟩
    · rcases ha with h | h | h
      · cases h
      · cases h
      · cases h.1
theorem witness_fallStruck :
    (∃ x ∈ (busyStation 3).table, x.state = .pending ∧ x.owner = (busyStation 3).ownId ∧ x.tag = some 7)
      ∧ request .pending (some 10708) false 3 ∈ (busyStation 3).req.list := by
  decide +kernel
/-- A pulse that has been low for 60 ticks, with a record that starts later. -/
def longPulse : State :=
  let s := lineDown (tabled [record 5 3 10708 .confirmed (some 7)]
    (listing [request .granted (some 10708) false 1] (station .quiesce)))
  { s with stop := { s.stop with lineLow := true, fallTick := some 9940 } }
theorem witness_longPulseTags : tagsDiffer longPulse ∧ ownTagsDiffer longPulse := by decide +kernel
theorem witness_longPulse : longPulse.ctrl.station.receiving = true ∧ longPulse.stop.lineLow = true
    ∧ stopIsLow longPulse = true ∧ longPulse.stop.classification = .none
    ∧ longPulse.stop.fallTick = some 9940 ∧ reached (9940 + 60) longPulse.now = true
    ∧ longDue longPulse = true := by
  decide +kernel
theorem witness_drain : requestInv longPulse ∧ (∃ t, exec .longClassification longPulse = .next t)
    ∧ (∃ x ∈ longPulse.table, later x.start (classificationTick longPulse) = true
        ∧ x.owner = longPulse.ownId ∧ x.tag = some 7)
    ∧ request .granted (some 10708) false 1 ∈ longPulse.req.list := by
  refine ⟨by unfold requestInv; decide +kernel, onEvent_next _ _ _, ?_⟩
  decide +kernel
/-- The line high again while the pulse is not yet over. -/
def rising : State :=
  { longPulse with stop := { longPulse.stop with peersLow := false } }
theorem witness_rise : rising.ctrl.station = .quiesce ∧ rising.stop.lineLow = true
    ∧ stopIsLow rising = false ∧ rising.stop.lineTaken = false := by
  decide +kernel
/-- A quiesce end that is reached. -/
def quiesceOver (low : Bool) (w : Working) : State :=
  let s := station .quiesce
  { s with
    ctrl := { s.ctrl with remembered := some w }
    stop := { s.stop with lineLow := low, quiesceEnd := some 10000 } }
theorem witness_quiesceEnd (low : Bool) (w : Working) :
    (quiesceOver low w).ctrl.station = .quiesce ∧ (quiesceOver low w).stop.quiesceEnd = some 10000
      ∧ reached 10000 (quiesceOver low w).now = true ∧ (quiesceOver low w).ctrl.remembered = some w
      ∧ (quiesceOver low w).stop.lineLow = low := ⟨rfl, rfl, (by decide : reached 10000 10000 = true), rfl, rfl⟩
theorem witness_stuckLine (raised : Bool) :
    let s : State := { longPulse with stop := { longPulse.stop with
      fallTick := some 8000, busFaultRaised := raised } }
    s.ctrl.station.receiving = true ∧ s.stop.lineLow = true ∧ stopIsLow s = true
      ∧ s.stop.fallTick = some 8000 ∧ reached (8000 + 2000) s.now = true
      ∧ s.stop.busFaultRaised = raised :=
  ⟨rfl, rfl, rfl, rfl, (by decide : reached (8000 + 2000) 10000 = true), rfl⟩

/-! ### Witnesses: timed events -/

/-- A station at its join-interval end. -/
def joinOver : State :=
  { station .listening with ctrl := { (station .listening).ctrl with joinEnd := some 10000 } }
theorem witness_joinIntervalEnd : joinOver.ctrl.station = .listening ∧ joinOver.ctrl.moveWaits = false
    ∧ joinOver.ctrl.joinEnd = some 10000 ∧ reached 10000 joinOver.now = true
    ∧ joinOver.onBus .join = false
    ∧ (onAir (frame 5 3 (.join 1)) .join true [false] joinOver).onBus .join = true := by
  decide +kernel
theorem witness_hold : let x := record 5 3 10708 .pending (some 7)
    let s := { tabled [{ x with received := 9796 }] (station .active) with now := 10000 }
    { x with received := 9796 } ∈ s.table
      ∧ (∀ y ∈ s.table, y.owner = x.owner → y.seq = x.seq → y = { x with received := 9796 })
      ∧ reached ((9796 : Tick) + BitVec.ofNat 32 (s.params.H + s.params.G)) s.now = true
      ∧ x.owner = s.ownId ∧ x.tag = some 7 ∧ (record 5 3 10708 .pending none).tag = none := by
  decide +kernel
theorem witness_retirement :
    reached ((8992 : Tick) + BitVec.ofNat 32 ((station .active).params.W + 2 * (station .active).params.G))
      (station .active).now = true := by
  decide +kernel
theorem witness_head : let r := request .waiting none false 0
    let s := listing [r] (station .active)
    tagsDiffer s ∧ r.state = .waiting ∧ s.req.list = [] ++ r :: [] ∧ s.ctrl.station = .active
      ∧ (∀ q ∈ s.req.list, q.state ≠ .sending ∧ q.state ≠ .pending) ∧ s.table.length < 48 := by
  decide
theorem witness_deadline : let s := station .active
    tickDiff (10207 : Tick) s.now < s.params.H + 2 * s.params.G
      ∧ tickDiff ((10000 : Tick) + 0x80000000) s.now < s.params.H + 2 * s.params.G
      ∧ ¬tickDiff (10208 : Tick) s.now < s.params.H + 2 * s.params.G := by
  decide +kernel
theorem witness_start : let r := request .granted (some 10000) false 1
    let s := listing [r] (station .active)
    r ∈ s.req.list ∧ tagsDiffer s ∧ r.start = some 10000 ∧ reached 10000 s.now = true
      ∧ s.channel (s.channelOf r.cls) = none := by
  decide +kernel
theorem witness_startAtAnEnd : let r := { request .granted (some 10000) false 1 with tag := 8 }
    let q := request .firing (some 9950) false 1
    let s := { listing [q, r] (endingPulse 10000) with now := 10000 }
    r ∈ s.req.list ∧ tagsDiffer s ∧ s.channel (s.channelOf r.cls) = some ⟨7, 10000⟩
      ∧ reached 10000 s.now = true ∧ q ∈ s.req.list ∧ q.tag = 7 ∧ (7 : Byte) ≠ r.tag := by
  decide +kernel
theorem witness_startWhileCancelling :
    (listing [request .cancelling (some 10000) false 1] (station .active)).onBus (.cancel 7) = false := by
  decide +kernel
theorem witness_channelEnd : let r := request .firing (some 9950) false 1
    (endingPulse 10000).channel 0 = some ⟨7, 10000⟩ ∧ reached 10000 (endingPulse 10000).now = true
      ∧ r ∈ (endingPulse 10000).req.list ∧ r.tag = 7 ∧ tagsDiffer (endingPulse 10000) := by
  decide +kernel

/-! ### Witnesses: admission -/

theorem witness_stretches : 0 < 1008 ∧ 1008 ≤ 2 ^ 20 := by decide
theorem witness_margins : let p := imageParams image
    0 < p.W ∧ p.W + 2 * p.G ≤ 2 ^ 20
      ∧ admissionCheck p (2 * p.G) peers17 ⟨10708, 4, 1, 633⟩ = .pass := by
  decide +kernel
theorem witness_narrowerIsNotWider : let p := imageParams image
    admissionCheck p p.G peers17 ⟨10404, 1, 1, 329⟩ = .pass
      ∧ admissionCheck p (2 * p.G) peers17 ⟨10404, 1, 1, 329⟩ = .fit := by
  decide +kernel
/-- No record, so every condition but the window holds everywhere. -/
theorem witness_earliestStart : let s := station .active
    let r := request .sending none false 0
    0 < s.params.W ∧ s.table.length < 48 ∧ r.overdue = false
      ∧ max (tickDiff r.notBefore s.now) (75 + s.params.H + 2 * s.params.G) = 283
      ∧ min (tickDiff r.deadline s.now) (75 + s.params.dMax) = 2000
      ∧ fits s r (s.now + BitVec.ofInt 32 283) := by
  refine ⟨by decide +kernel, by decide, rfl, by decide +kernel, by decide +kernel, ?_, ?_, ?_, ?_⟩
  · intro x hx; cases hx
  · intro k _; decide +revert +kernel
  · intro x hx; cases hx
  · intro e he; cases he
theorem witness_emptyWindow : let s := station .active
    let r := { request .sending none false 0 with notBefore := 15200, deadline := 20000 }
    min (tickDiff r.deadline s.now) (75 + s.params.dMax)
      < max (tickDiff r.notBefore s.now) (75 + s.params.H + 2 * s.params.G) := by
  decide +kernel
/-- A table of 48 records past their retire point, and a claim that only its capacity refuses. -/
theorem witness_retiredFull : let p := imageParams image
    let table := List.replicate 48 (record 8 1 8992 .confirmed none)
    table.length = 48 ∧ admissionCheck p p.G table ⟨10708, 4, 1, 633⟩ = .fit
      ∧ admissionCheck p p.G (table.erase (record 8 1 8992 .confirmed none)) ⟨10708, 4, 1, 633⟩ = .pass := by
  decide +kernel
theorem witness_retired : let p := imageParams image
    let x := record 8 1 8992 .confirmed none
    p.sShort ≤ p.sLong ∧ p.sLong ≤ p.W ∧ p.W + 2 * p.G ≤ 2 ^ 20
      ∧ 0 < tickDiff (10001 : Tick) 10000 ∧ tickDiff (10001 : Tick) 10000 ≤ 2 ^ 20
      ∧ -(2 ^ 20 : Int) ≤ tickDiff x.start 10000 ∧ tickDiff x.start 10000 ≤ 2 ^ 20
      ∧ reached (x.start + BitVec.ofNat 32 (p.W + 2 * p.G)) 10000 = true := by
  decide +kernel

/-! ### Witness: the invariants -/

/-- A station in ACTIVE with a GRANTED request, its record and a peer's. -/
def settled : State :=
  tabled [record 9 1 10300 .confirmed none, record 5 3 10708 .confirmed (some 7)]
    (listing [request .granted (some 10708) false 1] (station .active))

/-- A stretch of the table weighs no more than the table. -/
theorem stretch_le (p : ClaimRecord → Bool) (l : List ClaimRecord) :
    ((l.filter p).map (fun y => y.weight.toNat)).sum ≤ (l.map (fun y => y.weight.toNat)).sum := by
  induction l with
  | nil => simp
  | cons x rest ih => cases h : p x <;> simp [h] <;> omega

theorem settled_ties : tieInv settled := by
  refine ⟨?_, ?_, by decide +kernel, by decide +kernel, by intro c hc; cases hc⟩
  · intro x hx ho g hg
    simp only [settled, tabled, List.mem_cons, List.not_mem_nil, or_false] at hx
    rcases hx with rfl | rfl
    · cases hg
    · cases hg
      exact ⟨request .granted (some 10708) false 1, List.mem_singleton.2 rfl, rfl, rfl, rfl, rfl, rfl, rfl⟩
  · intro r hr _
    simp only [settled, tabled, listing, List.mem_singleton] at hr
    subst hr
    exact ⟨record 5 3 10708 .confirmed (some 7), List.mem_cons_of_mem _ (List.mem_singleton.2 rfl),
      by decide +kernel, rfl⟩

theorem settled_starts : startInv settled ∧ flightInv settled := by
  refine ⟨?_, ?_⟩
  · intro r hr t ht
    simp only [settled, tabled, listing, List.mem_singleton] at hr
    subst hr; cases ht
    exact ⟨fun _ => (by decide +kernel), ⟨nofun, nofun⟩⟩
  · intro x cells h; cases h

theorem settled_channels : outputInv settled ∧ channelInv settled := by
  have hidle : ∀ k : Channel, settled.channel k = none := by decide +kernel
  refine ⟨⟨by decide +kernel, ?_⟩, ?_, ?_⟩
  · intro c e h; rw [hidle c] at h; cases h
  · refine List.pairwise_pair.2 fun h _ _ => ?_
    exact absurd h (by decide +kernel)
  · intro r hr hf
    simp only [settled, tabled, listing, List.mem_singleton] at hr
    subst hr; cases hf

theorem witness_invariants : runInv settled ∧ settled.pending = [] ∧ ∃ t, step settled = .next t := by
  obtain ⟨h1, h2⟩ := settled_starts
  obtain ⟨h3, h4⟩ := settled_channels
  refine ⟨⟨?_, stationInv_of_quiet _ rfl ?_, ?_, ?_, settled_ties, h1, h2, h3, h4, ?_, ?_, ?_, ?_⟩, rfl, _, rfl⟩
  · intro h; cases h
  · unfold controllerInv configInv withdrawnInv requestsByStateInv monitorInv quiesceInv
    decide +kernel
  · unfold requestInv; decide +kernel
  · refine ⟨by decide +kernel, ?_, by decide +kernel, by decide +kernel, ?_⟩
    · intro g h; cases h
    · exact ⟨nofun, fun c hc => absurd hc (List.not_mem_nil)⟩
  · refine ⟨by decide +kernel, ?_, ?_, fun u => ?_⟩
    · exact List.pairwise_pair.2 (by decide +kernel)
    · exact List.pairwise_pair.2 (by unfold spaced; decide +kernel)
    · exact (stretch_le _ _).trans (by decide +kernel)
  · refine ⟨List.pairwise_pair.2 (by decide +kernel), ?_⟩
    decide +kernel
  · unfold recordInv; decide +kernel
  · intro c start finish pulling h; cases h
theorem witness_settledTick : dueEvents settled = [] := by decide +kernel

/-- The pulses of two requests on one channel, laid end to end: a GRANTED start at the end of a FIRING one. -/
theorem witness_endToEnd : let q := request .firing (some 9950) false 1
    let r := { request .granted (some 10000) false 1 with tag := 8 }
    let s := { listing [q, r] (endingPulse 10000) with now := 10000 }
    q ∈ s.req.list ∧ r ∈ s.req.list ∧ q.tag ≠ r.tag ∧ s.channelOf q.cls = s.channelOf r.cls
      ∧ q.start = some 9950 ∧ r.start = some 10000 ∧ reached 10000 s.now = true := by
  decide +kernel

end Sys2Proof.Tests
end

