-- ==== Sys2Proof/Proofs/Admission.lean ====
section
/-!
PROOFS. The admission check (R9 to R14): what each of its four tests says, why the few stretches of R12 decide
for all of them, and the statements on the check's outcomes.
-/

namespace Sys2Proof.Machine

/-! ### Range, capacity and spacing (R9 to R11) -/

theorem inRange_iff (p : Params) (c : Claim) :
    inRange p c = true ↔ p.H + 2 * p.G ≤ c.offset ∧ c.offset ≤ p.dMax ∧ 1 ≤ c.weight ∧ c.weight ≤ p.B := by
  simp only [inRange, Bool.and_eq_true, decide_eq_true_eq, and_assoc]
  rfl

theorem hasRoom_iff (table : List ClaimRecord) : hasRoom table = true ↔ table.length < 48 := by
  simp [hasRoom]

theorem spacingBound_le_iff (p : Params) (m : Nat) (g : Group) (x : ClaimRecord) (d : Nat) :
    spacingBound p m g x ≤ d ↔ p.sShort + m ≤ d ∧ (x.group = g → p.sLong + m ≤ d) := by
  unfold spacingBound
  split
  · next hg => rw [max_le_iff]; simp [hg]
  · next hg => simp [hg]

theorem spacingOk_iff (p : Params) (m : Nat) (table : List ClaimRecord) (t : Tick) (g : Group) :
    spacingOk p m table t g = true ↔ ∀ x ∈ table, p.sShort + m ≤ (tickDiff t x.start).natAbs
      ∧ (x.group = g → p.sLong + m ≤ (tickDiff t x.start).natAbs) := by
  simp only [spacingOk, List.all_eq_true, decide_eq_true_eq, spacingBound_le_iff, distance]

/-- A wider margin only raises the bounds (R14). -/
theorem spacingOk_of_le {m n : Nat} (hmn : m ≤ n) {p : Params} {table : List ClaimRecord} {t : Tick} {g : Group}
    (h : spacingOk p n table t g = true) : spacingOk p m table t g = true := by
  rw [spacingOk_iff] at h ⊢
  intro x hx
  obtain ⟨hshort, hlong⟩ := h x hx
  exact ⟨by omega, fun hg => by have := hlong hg; omega⟩

/-! ### Stretches (R12) -/

/-- Exchanging the two ticks negates their difference, but for the one difference that has no opposite (R2). -/
theorem tickDiff_swap (t u : Tick) (h : -(2 ^ 31 : Int) < tickDiff t u) : tickDiff u t = -tickDiff t u := by
  have hne : t - u ≠ BitVec.intMin 32 := by
    intro he
    rw [tickDiff, he] at h
    exact absurd h (by decide)
  unfold tickDiff
  rw [← BitVec.toInt_neg_of_ne_intMin hne, BitVec.neg_sub, BitVec.add_comm, ← BitVec.sub_eq_add_neg]

theorem inStretch_iff (t : Tick) (k len : Nat) (x : ClaimRecord) :
    inStretch t k len x = true ↔ -(k : Int) ≤ tickDiff x.start t ∧ tickDiff x.start t < (len : Int) - k := by
  simp [inStretch]

/-- A stretch holds no more weight than one that holds all its records. -/
theorem stretchWeight_le {table : List ClaimRecord} {t : Tick} {k len k' len' : Nat}
    (h : ∀ x ∈ table, inStretch t k len x = true → inStretch t k' len' x = true) :
    stretchWeight table t k len ≤ stretchWeight table t k' len' := by
  have hwithin : table.filter (inStretch t k len)
      = (table.filter (inStretch t k' len')).filter (inStretch t k len) := by
    rw [List.filter_filter]
    refine List.filter_congr fun x hx => ?_
    cases hin : inStretch t k len x
    · rfl
    · simp [h x hx hin]
  unfold stretchWeight
  rw [hwithin]
  exact (List.filter_sublist.map _).sum_le_sum fun _ _ => Nat.zero_le _

theorem mem_stretchStarts_iff (table : List ClaimRecord) (t : Tick) (len k : Nat) :
    k ∈ stretchStarts table t len ↔ k = 0 ∨ ∃ x ∈ table, tickDiff t x.start = k ∧ k < len := by
  simp only [stretchStarts, List.mem_cons, List.mem_filterMap, Option.ite_none_right_eq_some, Option.some.injEq]
  refine or_congr_right (exists_congr fun x => and_congr_right fun _ => ?_)
  omega

/-- Every stretch that contains `t` has all its records in one that begins at `t` or at a record: start later, at
the first record of the stretch that is not after `t`, or at `t` when there is none (R12). -/
theorem exists_stretchStart (table : List ClaimRecord) (t : Tick) (len k : Nat) (hk : k < len)
    (hlen : len ≤ 2 ^ 20) : ∃ k' ∈ stretchStarts table t len,
      ∀ x ∈ table, inStretch t k len x = true → inStretch t k' len x = true := by
  let k' := Nat.findGreatest (· ∈ stretchStarts table t len) k
  have hle : k' ≤ k := Nat.findGreatest_le k
  have hmem : k' ∈ stretchStarts table t len :=
    Nat.findGreatest_spec (Nat.zero_le k) ((mem_stretchStarts_iff ..).2 (.inl rfl))
  refine ⟨k', hmem, fun x hx hin => ?_⟩
  rw [inStretch_iff] at hin ⊢
  obtain ⟨hlow, hhigh⟩ := hin
  refine ⟨?_, by omega⟩
  by_cases hafter : 0 < tickDiff x.start t
  · omega
  · have hback := tickDiff_swap x.start t (by omega)
    have hstart : (-tickDiff x.start t).toNat ∈ stretchStarts table t len :=
      (mem_stretchStarts_iff ..).2 (.inr ⟨x, hx, by omega, by omega⟩)
    have hfirst : (-tickDiff x.start t).toNat ≤ k' := Nat.le_findGreatest (by omega) hstart
    omega

/-- The budget test examines few stretches and answers for all that contain `t` (R12). -/
theorem budgetOk_iff (p : Params) (len : Nat) (table : List ClaimRecord) (t : Tick) (w : Nat) (hpos : 0 < len)
    (hlen : len ≤ 2 ^ 20) :
    budgetOk p len table t w = true ↔ ∀ k < len, w + stretchWeight table t k len ≤ p.B := by
  simp only [budgetOk, List.all_eq_true, decide_eq_true_eq]
  constructor
  · intro h k hk
    obtain ⟨k', hmem, hsub⟩ := exists_stretchStart table t len k hk hlen
    exact (Nat.add_le_add_left (stretchWeight_le hsub) w).trans (h k' hmem)
  · intro h k hmem
    refine h k ?_
    obtain rfl | ⟨_, _, _, hk⟩ := (mem_stretchStarts_iff ..).1 hmem
    · exact hpos
    · exact hk

/-- A shorter stretch that contains `t` lies inside a longer one that contains `t` (R14). -/
theorem budgetOk_of_le {len len' : Nat} (hle : len ≤ len') (hpos : 0 < len) (hlen : len' ≤ 2 ^ 20) {p : Params}
    {table : List ClaimRecord} {t : Tick} {w : Nat} (h : budgetOk p len' table t w = true) :
    budgetOk p len table t w = true := by
  rw [budgetOk_iff _ _ _ _ _ (by omega) (by omega)] at h ⊢
  intro k hk
  have hsub : stretchWeight table t k len ≤ stretchWeight table t k len' := by
    refine stretchWeight_le fun x _ hin => ?_
    rw [inStretch_iff] at hin ⊢
    omega
  have := h k (by omega)
  omega

/-- The weight of a stretch, with the bounds of its length `a + b` written out. -/
theorem stretchWeight_add (table : List ClaimRecord) (t : Tick) (k a b : Nat) :
    stretchWeight table t k (a + b) = ((table.filter (fun x => decide (-(k : Int) ≤ tickDiff x.start t
      ∧ tickDiff x.start t < (a + b : Int) - k))).map (fun x => x.weight.toNat)).sum := by
  have hbounds : inStretch t k (a + b) = fun x => decide (-(k : Int) ≤ tickDiff x.start t
      ∧ tickDiff x.start t < (a + b : Int) - k) := by
    funext x; simp [inStretch]
  rw [stretchWeight, hbounds]

/-! ### The outcomes of the check (R13) -/

theorem admissionCheck_range_iff (p : Params) (m : Nat) (table : List ClaimRecord) (c : Claim) :
    admissionCheck p m table c = .range ↔ ¬inRange p c = true := by
  unfold admissionCheck
  split
  · next hrange => simpa using hrange
  · next hrange => split <;> simpa using hrange

theorem admissionCheck_pass_iff (p : Params) (m : Nat) (table : List ClaimRecord) (c : Claim) :
    admissionCheck p m table c = .pass ↔ inRange p c = true ∧ hasRoom table = true
      ∧ spacingOk p m table c.start c.group = true
      ∧ budgetOk p (p.W + m) table c.start c.weight = true := by
  unfold admissionCheck
  split
  · next hrange => simp_all
  · next hrange => split <;> simp_all [and_assoc]

/-- FIT is what remains. -/
theorem admissionCheck_fit_iff (p : Params) (m : Nat) (table : List ClaimRecord) (c : Claim) :
    admissionCheck p m table c = .fit ↔ admissionCheck p m table c ≠ .range ∧ admissionCheck p m table c ≠ .pass := by
  cases admissionCheck p m table c <;> simp

/-- Settles O51: each of the four tests says what R9 to R12 say of it, and FIT is what RANGE and PASS leave. -/
theorem admissionCheckGivesOneOutcome : Obligations.AdmissionCheckGivesOneOutcome := by
  intro p m table c hW hlen range spacing budget fits
  have hbudget : budgetOk p (p.W + m) table c.start c.weight = true ↔ budget := by
    simp only [budgetOk_iff p _ table _ _ (by omega) hlen, stretchWeight_add, budget]
  have hrange : admissionCheck p m table c = .range ↔ ¬range := by
    rw [admissionCheck_range_iff, inRange_iff]
  have hpass : admissionCheck p m table c = .pass ↔ range ∧ fits := by
    rw [admissionCheck_pass_iff, inRange_iff, hasRoom_iff, spacingOk_iff, hbudget]
  refine ⟨hrange, hpass, ?_⟩
  rw [admissionCheck_fit_iff, Ne, Ne, hrange, hpass]
  tauto

/-- Moving from margin 2G to G keeps range and capacity, relaxes the spacing and shortens the stretches (R14). -/
theorem admissionCheck_pass_of_le {m n : Nat} (hmn : m ≤ n) {p : Params} {table : List ClaimRecord} {c : Claim}
    (hW : 0 < p.W) (hlen : p.W + n ≤ 2 ^ 20) (h : admissionCheck p n table c = .pass) :
    admissionCheck p m table c = .pass := by
  rw [admissionCheck_pass_iff] at h ⊢
  obtain ⟨hrange, hroom, hspacing, hbudget⟩ := h
  exact ⟨hrange, hroom, spacingOk_of_le hmn hspacing, budgetOk_of_le (by omega) (by omega) hlen hbudget⟩

/-- Settles O50: the first half by the margin's monotonicity; for the converse a claim 24 ticks after a record
keeps S_short + G = 20 + 4 and not S_short + 2G. -/
theorem widerMarginImpliesNarrower : Obligations.WiderMarginImpliesNarrower := by
  refine ⟨fun p table c hW hlen => admissionCheck_pass_of_le (by omega) hW hlen, ?_⟩
  let p : Params := ⟨1000, 10, 20, 100, 200, 4, 5000⟩
  let present : ClaimRecord := ⟨8, 1, 0, 0, 5, 9700, 9000, .confirmed, none⟩
  let c : Claim := ⟨9724, 4, 1, 600⟩
  exact ⟨p, [present], c, by decide +kernel, by decide +kernel⟩

end Sys2Proof.Machine
end

