-- ==== Sys2Proof/Proofs/Reading.lean ====
section
/-!
PROOFS. The commands that read the station's state, time and events (R178, R179), and the attention line (R168).
-/

namespace Sys2Proof.Machine

open Sys2Proof.Said

/-! ### Flags in a byte (11_formats.md) -/

/-- Bit 0 is the first flag, and the rest follow one bit higher. -/
theorem ofBits_reverse_cons (b : Bool) (l : List Bool) :
    ofBits (b :: l).reverse = b.toNat + 2 * ofBits l.reverse := by
  simp only [ofBits, List.reverse_cons, List.foldl_append, List.foldl_cons, List.foldl_nil]
  omega

/-- One flag alone is bit 0 of its byte. -/
theorem flagsByte_singleton (b : Bool) : flagsByte [b] = if b then 1 else 0 := by
  cases b <;> rfl

/-- The event byte holds STATE at bit 0, then DETECT, RECOVERY, FOREIGN, and BUS_FAULT at bit 4 (11.5). -/
theorem EventFlags.byte_eq (f : EventFlags) :
    f.byte = BitVec.ofNat 8 (f.state.toNat + 2 * f.detect.toNat + 4 * f.recovery.toNat
      + 8 * f.foreign.toNat + 16 * f.busFault.toNat) := by
  have hnil : ofBits [].reverse = 0 := rfl
  simp only [EventFlags.byte, flagsByte, ofBits_reverse_cons, hnil]
  congr 1
  omega

/-! ### The attention line (R168) -/

theorem EventFlags.any_iff (f : EventFlags) : f.any = true ↔ f.state = true ∨ f.detect = true
    ∨ f.recovery = true ∨ f.foreign = true ∨ f.busFault = true := by
  simp only [EventFlags.any, Bool.or_eq_true, or_assoc]

@[simp] theorem EventFlags.any_clear : EventFlags.clear.any = false := rfl

theorem State.attnLow_iff (s : State) :
    s.attnLow = true ↔ s.resetHeld = false ∧ (s.port.results ≠ [] ∨ s.log.flags.any = true) := by
  simp [State.attnLow]

/-- With the reset released and every flag clear, only queued results hold ATTN_N low. -/
theorem State.attnLow_of_clear {s : State} (hheld : s.resetHeld = false) (hflags : s.log.flags = .clear) :
    s.attnLow = !s.port.results.isEmpty := by
  simp [State.attnLow, hheld, hflags]

/-! ### What the three commands answer -/

theorem onPort_of_portOpen {f : State → State} {s : State} (h : portOpen s) : onPort f s = .next (f s) := by
  obtain ⟨hheld, hunder⟩ := h
  exact onPort_open f s hheld hunder

/-- READ STATE, taken: the counts of table, requests and results, the own sequence number and DEFER (R178). -/
theorem exec_readState_open {s : State} (h : portOpen s) :
    exec .readState s = .next (s.answer .ok ([s.ctrl.station.code, byteOf s.table.length,
      byteOf s.req.list.length, byteOf s.port.results.length] ++ seqBytes s.bus.ownSeq
      ++ [flagsByte [s.bus.defer]])) := by
  have harm : exec .readState s = execReadState s := rfl
  rw [harm, execReadState, onPort_of_portOpen h]

/-- READ TIME, taken: the tick as it stands (R178). -/
theorem exec_readTime_open {s : State} (h : portOpen s) :
    exec .readTime s = .next (s.answer .ok (tickBytes s.now)) := by
  have harm : exec .readTime s = execReadTime s := rfl
  rw [harm, execReadTime, onPort_of_portOpen h]

/-- READ EVENTS, taken: the flags as they stood, and all of them clear (R126, R179). -/
theorem exec_readEvents_open {s : State} (h : portOpen s) :
    exec .readEvents s = .next
      (State.answer { s with log := { s.log with flags := .clear } } .ok [s.log.flags.byte]) := by
  have harm : exec .readEvents s = execReadEvents s := rfl
  rw [harm, execReadEvents, onPort_of_portOpen h]

/-! ### The statements -/

/-- Settles O9: both answers are the commands' own, with the response bytes written out. -/
theorem readStateAndTimeReport : Obligations.ReadStateAndTimeReport := by
  refine ⟨rfl, rfl, fun s hopen => ⟨?_, exec_readTime_open hopen⟩⟩
  rw [exec_readState_open hopen, flagsByte_singleton]
  rfl

/-- Settles O10: the answer holds the flag byte, and clear flags leave ATTN_N to the results alone. -/
theorem readEventsReportsAndClears : Obligations.ReadEventsReportsAndClears := by
  refine ⟨rfl, fun s => ?_, fun s hopen => ⟨?_, ?_⟩⟩
  · rw [State.attnLow_iff, EventFlags.any_iff]
  · rw [exec_readEvents_open hopen, EventFlags.byte_eq]
    rfl
  · obtain ⟨hheld, _⟩ := hopen
    exact State.attnLow_of_clear hheld rfl

end Sys2Proof.Machine
end

section
/-!
PROOFS. The slot invariant is not kept (O57): nothing in `runInv` keeps the two CANCEL slots from naming one
request, and then a frame that begins for one slot is on LINK while the other waits for the start tick.
-/

namespace Sys2Proof.Machine.TwoSlots

/-! ### A run state whose two CANCEL slots name one request -/

/-- The image of 11.6: station 5, rail group 1, LATCHED, class 2 on channel 0. -/
def image : Image := paramImage ([3, 232, 10, 0, 20, 0, 100, 0, 200, 4, 19, 136, 5, 1, 0] ++ List.replicate 8 0
  ++ [128, 4, 0, 50] ++ List.replicate 20 0)

/-- A CANCELLING request at its start tick, 10,000. -/
def request : Request :=
  { tag := 7, cls := 2, notBefore := 9000, deadline := 12000, state := .cancelling, attempts := 1,
    claimSeq := some 3, start := some 10000, mark := false, overdue := false }

/-- Its record. -/
def record : ClaimRecord :=
  { owner := 5, seq := 3, cls := 2, group := 1, weight := 4, start := 10000, received := 9700,
    state := .confirmed, tag := some 7 }

/-- The station at tick 10,000, ACTIVE, LINK idle, with ATTEMPT_START in the queue; one CANCEL frame of the
request was placed before its start tick and one at it. -/
def station : State :=
  { State.reset with
    now := 10000
    ctrl := { State.reset.ctrl with station := .active }
    bus := { BusInterface.reset with receive := .outOfFrame 30 }
    table := [record]
    req := { list := [request], claimSlot := none, cancelSlots := [⟨3, 7, false⟩, ⟨3, 7, true⟩],
             joinSlot := false }
    port := { State.reset.port with image := some image, digest := some 237 }
    pending := [.attemptStart] }

/-- After the attempt start: the frame of the first slot is on LINK. -/
def begun : State := { station with pending := [] }.attempt

/-! ### It meets every invariant -/

theorem station_stationInv : stationInv station := by
  have hquiet : sendingInv station := by intro x hx; cases hx
  unfold stationInv controllerInv configInv withdrawnInv requestsByStateInv monitorInv quiesceInv
  refine ⟨?_, ?_, ?_, ?_, hquiet, ?_, ?_⟩ <;> decide +kernel

theorem station_slotInv : slotInv station := by
  refine ⟨by decide +kernel, ?_, by decide +kernel, by decide +kernel, ?_, ?_⟩
  · intro g hg; cases hg
  · intro x hx; cases hx
  intro c hc hlate
  refine ⟨rfl, request, List.mem_singleton.2 rfl, ?_, rfl, 10000, rfl, by decide +kernel⟩
  simp only [station, List.mem_cons, List.not_mem_nil, or_false] at hc
  obtain rfl | rfl := hc <;> rfl

theorem standsFor_request : standsFor record request := ⟨rfl, rfl, rfl, rfl, trivial⟩

theorem station_tieInv : tieInv station := by
  refine ⟨?_, ?_, by decide +kernel, by decide +kernel, by decide +kernel⟩
  · intro x hx _ g hg
    obtain rfl := List.mem_singleton.1 hx
    cases hg
    exact ⟨request, List.mem_singleton.2 rfl, rfl, standsFor_request⟩
  · intro r hr _
    obtain rfl := List.mem_singleton.1 hr
    exact ⟨record, List.mem_singleton.2 rfl, by decide +kernel, rfl⟩

theorem station_startInv : startInv station := by
  intro r hr t ht
  obtain rfl := List.mem_singleton.1 hr
  cases ht
  exact ⟨nofun, fun _ => .inl (by decide +kernel), nofun⟩

theorem station_channels : outputInv station ∧ channelInv station := by
  have hidle : ∀ c : Channel, station.channel c = none := by decide +kernel
  refine ⟨⟨by decide +kernel, fun c e he => ?_⟩, List.pairwise_singleton _ _, ?_⟩
  · rw [hidle c] at he; cases he
  · intro r hr hfiring
    obtain rfl := List.mem_singleton.1 hr
    cases hfiring

theorem station_tableInv : tableInv station := by
  refine ⟨by decide +kernel, List.pairwise_singleton _ _, List.pairwise_singleton _ _, fun u => ?_⟩
  have hall : ∀ keep : ClaimRecord → Bool, (([record].filter keep).map (fun x => x.weight.toNat)).sum ≤ 4 := by
    intro keep
    rw [List.filter_singleton]
    cases keep record <;> decide
  exact (hall _).trans (by decide +kernel)

theorem station_runInv : runInv station := by
  obtain ⟨houtput, hchannel⟩ := station_channels
  refine ⟨?_, station_stationInv, by unfold requestInv; decide +kernel, station_slotInv, station_tieInv,
    station_startInv, ?_, houtput, hchannel, station_tableInv, ?_, ?_, ?_⟩
  · intro hheld; cases hheld
  · intro x cells hx; cases hx
  · exact ⟨List.pairwise_singleton _ _, by decide +kernel⟩
  · unfold recordInv; decide +kernel
  · intro c start finish pulling hdrive; cases hdrive

/-! ### Its step breaks the slot invariant -/

theorem step_station : step station = .next begun := by
  have hdue : attemptDue { station with pending := [] } = true := by decide +kernel
  exact onEvent_due _ _ _ hdue

theorem begun_late_onBus : begun.onBus (.cancel 7) = true ∧ ⟨3, 7, true⟩ ∈ begun.req.cancelSlots := by
  decide +kernel

theorem begun_not_slotInv : ¬slotInv begun := by
  rintro ⟨-, -, -, -, -, hlate⟩
  obtain ⟨hbus, hmem⟩ := begun_late_onBus
  obtain ⟨hoff, -⟩ := hlate _ hmem rfl
  exact absurd (hbus.symm.trans hoff) Bool.noConfusion

/-- Refutes O57: `runInv` holds of a station in whose two CANCEL slots stand two frames for one request, the
first placed before its start tick and the second at it. Its ATTEMPT_START begins the first frame, so the late slot
no longer waits off LINK as the last clause of `slotInv` asks. -/
theorem not_everyStepKeepsTheSlotInvariant : ¬ Obligations.EveryStepKeepsTheSlotInvariant := by
  rintro ⟨hslot, -⟩
  exact begun_not_slotInv (hslot station begun station_runInv step_station)

end Sys2Proof.Machine.TwoSlots
end

section
/-!
PROOFS. The arithmetic of ticks (R2): differences add up as long as they stay below half the counter's range, and
the bounds that the image's bytes put on every span.
-/

namespace Sys2Proof.Machine

/-! ### Differences of ticks (R2) -/

theorem tickDiff_bounds (t u : Tick) : -(2 ^ 31 : Int) ≤ tickDiff t u ∧ tickDiff t u < 2 ^ 31 := by
  have hlow := BitVec.le_two_mul_toInt (x := t - u)
  have hhigh := BitVec.two_mul_toInt_lt (x := t - u)
  unfold tickDiff
  omega

@[simp] theorem tickDiff_self (t : Tick) : tickDiff t t = 0 := by simp [tickDiff]

/-- Differences add up while the sum is a difference at all. -/
theorem tickDiff_chain (t u v : Tick) (hlow : -(2 ^ 31 : Int) ≤ tickDiff t u + tickDiff u v)
    (hhigh : tickDiff t u + tickDiff u v < 2 ^ 31) : tickDiff t v = tickDiff t u + tickDiff u v := by
  have hsum : t - v = (t - u) + (u - v) := by simp [BitVec.sub_eq_add_neg]
  unfold tickDiff at *
  rw [hsum, BitVec.toInt_add]
  exact Int.bmod_eq_of_le (by omega) (by omega)

theorem tickDiff_eq_zero {t u : Tick} (h : tickDiff t u = 0) : t = u := by
  have hzero : t - u = 0 := BitVec.eq_of_toInt_eq (by simpa [tickDiff] using h)
  have hcancel : t - u + u = t := BitVec.sub_add_cancel t u
  rw [← hcancel, hzero]
  exact BitVec.zero_add u

theorem tickDiff_add_ofInt (t : Tick) (n : Int) (hlow : -(2 ^ 31 : Int) ≤ n) (hhigh : n < 2 ^ 31) :
    tickDiff (t + BitVec.ofInt 32 n) t = n := by
  have hcancel : t + BitVec.ofInt 32 n - t = BitVec.ofInt 32 n := by
    rw [BitVec.add_comm, BitVec.add_sub_cancel]
  rw [tickDiff, hcancel, BitVec.toInt_ofInt]
  exact Int.bmod_eq_of_le (by omega) (by omega)

theorem tickDiff_add_ofNat (t : Tick) (n : Nat) (hn : n < 2 ^ 31) : tickDiff (t + BitVec.ofNat 32 n) t = n := by
  rw [← BitVec.ofInt_natCast]
  exact tickDiff_add_ofInt t n (by omega) (by omega)

theorem tickDiff_plus (t : Tick) (n : Nat) (hn : n < 2 ^ 31) : tickDiff (plus t n) t = n :=
  tickDiff_add_ofNat t n hn

theorem tickDiff_plus_right (t : Tick) (n : Nat) (hn : n < 2 ^ 31) : tickDiff t (plus t n) = -n := by
  rw [tickDiff_swap _ _ (by rw [tickDiff_plus t n hn]; omega), tickDiff_plus t n hn]

/-- Adding the difference leads from one tick to the other. -/
theorem add_ofInt_tickDiff (t u : Tick) : u + BitVec.ofInt 32 (tickDiff t u) = t := by
  rw [tickDiff, BitVec.ofInt_toInt, BitVec.add_comm, BitVec.sub_add_cancel]

/-- Two ticks at one difference from a third are one. -/
theorem eq_of_tickDiff_eq {t u v : Tick} (h : tickDiff t v = tickDiff u v) : t = u := by
  rw [← add_ofInt_tickDiff t v, h, add_ofInt_tickDiff]

/-- One tick later every tick is one nearer. -/
theorem tickDiff_succ_right (t now : Tick) (h : -(2 ^ 31 : Int) < tickDiff t now) :
    tickDiff t (now + 1) = tickDiff t now - 1 := by
  have hone : tickDiff now (now + 1) = -1 := tickDiff_plus_right now 1 (by omega)
  have hbound := tickDiff_bounds t now
  rw [tickDiff_chain t now (now + 1) (by omega) (by omega), hone]
  rfl

theorem tickDiff_succ_left (now t : Tick) (h : tickDiff now t < 2 ^ 31 - 1) :
    tickDiff (now + 1) t = tickDiff now t + 1 := by
  have hone : tickDiff (now + 1) now = 1 := tickDiff_plus now 1 (by omega)
  have hbound := tickDiff_bounds now t
  rw [tickDiff_chain (now + 1) now t (by omega) (by omega), hone]
  omega

theorem later_iff (t u : Tick) : later t u = true ↔ 0 < tickDiff t u := by simp [later]

theorem reached_iff (t now : Tick) : reached t now = true ↔ 0 ≤ tickDiff now t := by simp [reached]

theorem not_reached_iff (t now : Tick) : reached t now = false ↔ tickDiff now t < 0 := by simp [reached]

/-! ### Spans that the image fixes (R4 to R7, R185) -/

theorem imageWord_lt (img : Image) (i : Nat) : imageWord img i < 65536 := (imageByte img i ++ imageByte img
    (i + 1)).isLt

theorem imageParams_bounds (img : Image) : (imageParams img).W < 65536 ∧ (imageParams img).H < 65536
    ∧ (imageParams img).G < 256 ∧ (imageParams img).dMax < 65536 :=
  ⟨imageWord_lt img 0, imageWord_lt img 7, (imageByte img 9).isLt, imageWord_lt img 10⟩

theorem State.params_bounds (s : State) :
    s.params.W < 65536 ∧ s.params.H < 65536 ∧ s.params.G < 256 ∧ s.params.dMax < 65536 := imageParams_bounds s.image

theorem State.duration_lt (s : State) (c : ClassNo) : (s.classOf c).duration < 65536 := imageWord_lt s.image _

/-- What the admission and the outputs need of JOIN's validation (R7). -/
theorem validImage_spans {img : Image} (h : validImage img = true) :
    1 ≤ (imageParams img).sShort ∧ 1 ≤ (imageParams img).G ∧ 100 ≤ (imageParams img).W := by
  simp only [validImage, Bool.and_eq_true, decide_eq_true_eq, and_assoc] at h
  obtain ⟨hW, -, hshort, -, -, -, -, -, -, hG, -⟩ := h
  exact ⟨hshort, hG, hW⟩

/-- An enabled class of a validated image has a duration of at least one tick (R7). -/
theorem validImage_duration {img : Image} (h : validImage img = true) (c : ClassNo)
    (hc : (imageClass img c).enabled = true) : 1 ≤ (imageClass img c).duration := by
  have hall : allClasses.all (fun c => validClass (imageParams img).B (imageClass img c)) = true := by
    simp only [validImage, Bool.and_eq_true, and_assoc] at h
    obtain ⟨-, -, -, -, -, -, -, -, -, -, -, -, -, -, -, hall, -⟩ := h
    exact hall
  have hmem : ∀ c : ClassNo, c ∈ allClasses := by decide
  have hvalid := List.all_eq_true.1 hall c (hmem c)
  simp only [validClass, hc, Bool.not_true, Bool.false_or, Bool.and_eq_true, decide_eq_true_eq] at hvalid
  exact hvalid.2

end Sys2Proof.Machine
end

section
/-!
PROOFS. The invariants that O55, O56, O58 and O59 ask every step to keep, gathered as `Sound`, and the relation
`Keeps` of a state to one whose table and FIRING requests come from it: every invariant of table, order, records and
channels passes along it.
-/

namespace Sys2Proof.Machine

/-- With the reset released: the invariants about the station's items, the bounds of requests, the outputs, the table
and the drive. -/
structure Sound (s : State) : Prop where
  running : s.resetHeld = false
  station : stationInv s
  request : requestInv s
  output : outputInv s
  channel : channelInv s
  table : tableInv s
  order : orderInv s
  record : recordInv s
  drive : driveInv s

theorem Sound.of_runInv {s : State} (hrunning : s.resetHeld = false) (h : runInv s) : Sound s := by
  obtain ⟨-, hstation, hrequest, -, -, -, -, houtput, hchannel, htable, horder, hrecord, hdrive⟩ := h
  exact ⟨hrunning, hstation, hrequest, houtput, hchannel, htable, horder, hrecord, hdrive⟩

/-! ### What the invariants do not speak of -/

/-- The state with a fixed value in each item that no invariant of `Sound` speaks of. -/
def State.core (s : State) : State :=
  { s with
    bus := { s.bus with ownSeq := 0, lastCell := true, attempted := false, peers := [] }
    roster := clearedRoster
    log := State.reset.log
    port := { s.port with transaction := .idle, fetchEnding := false, takings := 0, selects := [] }
    choices := 0
    pending := [] }

theorem Sound.core_iff (s : State) : Sound s ↔ Sound s.core :=
  ⟨fun ⟨h0, h1, h2, h3, h4, h5, h6, h7, h8⟩ => ⟨h0, h1, h2, h3, h4, h5, h6, h7, h8⟩,
    fun ⟨h0, h1, h2, h3, h4, h5, h6, h7, h8⟩ => ⟨h0, h1, h2, h3, h4, h5, h6, h7, h8⟩⟩

/-- Items outside the core may change at will. -/
theorem Sound.of_core {s t : State} (h : Sound s) (hcore : t.core = s.core) : Sound t := by
  rw [Sound.core_iff, hcore, ← Sound.core_iff]
  exact h

/-! ### The image -/

section Image

variable {s t : State} (himage : t.port.image = s.port.image)
include himage

theorem State.image_congr : t.image = s.image := by simp only [State.image, himage]
theorem State.params_congr : t.params = s.params := congrArg imageParams (State.image_congr himage)
theorem State.ownId_congr : t.ownId = s.ownId := by simp only [State.ownId, State.image_congr himage]
theorem State.classOf_congr (c : ClassNo) : t.classOf c = s.classOf c := by
  simp only [State.classOf, State.image_congr himage]
theorem State.channelOf_congr (c : ClassNo) : t.channelOf c = s.channelOf c := by
  simp only [State.channelOf, State.classOf_congr himage]

end Image

/-! ### Tables that come from a table -/

/-- The record `y` is `x` but for its tag and the end of its hold. -/
structure ClaimRecord.From (x y : ClaimRecord) : Prop where
  owner : y.owner = x.owner
  seq : y.seq = x.seq
  cls : y.cls = x.cls
  group : y.group = x.group
  weight : y.weight = x.weight
  start : y.start = x.start
  received : y.received = x.received
  state : y.state = .pending → x.state = .pending

theorem ClaimRecord.From.refl (x : ClaimRecord) : x.From x := ⟨rfl, rfl, rfl, rfl, rfl, rfl, rfl, id⟩

theorem ClaimRecord.From.trans {x y z : ClaimRecord} (h : x.From y) (h' : y.From z) : x.From z :=
  ⟨h'.owner.trans h.owner, h'.seq.trans h.seq, h'.cls.trans h.cls, h'.group.trans h.group,
    h'.weight.trans h.weight, h'.start.trans h.start, h'.received.trans h.received, fun hp => h.state (h'.state hp)⟩

/-- At one instant, under one image: the table of `t` comes from that of `s` record by record, some removed, and
the FIRING requests of `t` were FIRING in `s`, their records still with their tags. -/
structure Keeps (s t : State) : Prop where
  held : t.resetHeld = s.resetHeld
  now : t.now = s.now
  image : t.port.image = s.port.image
  firing : ∀ r ∈ t.req.list, r.state = .firing → r ∈ s.req.list
  table : ∃ f : ClaimRecord → Option ClaimRecord, t.table = s.table.filterMap f
    ∧ ∀ x y, f x = some y → x.From y
      ∧ ∀ r ∈ t.req.list, r.state = .firing → x.tag = some r.tag → y.tag = some r.tag

theorem Keeps.refl (s : State) : Keeps s s :=
  ⟨rfl, rfl, rfl, fun _ h _ => h, some, by simp, by rintro x y ⟨⟩; exact ⟨.refl x, fun _ _ _ h => h⟩⟩

theorem Keeps.trans {s t u : State} (h : Keeps s t) (h' : Keeps t u) : Keeps s u := by
  obtain ⟨hheld, hnow, himage, hfiring, f, htable, hf⟩ := h
  obtain ⟨hheld', hnow', himage', hfiring', f', htable', hf'⟩ := h'
  refine ⟨hheld'.trans hheld, hnow'.trans hnow, himage'.trans himage, fun r hr hs => hfiring r (hfiring' r hr hs) hs,
    fun x => (f x).bind f', by rw [htable', htable, List.filterMap_filterMap], fun x z hz => ?_⟩
  obtain ⟨y, hy, hyz⟩ := Option.bind_eq_some_iff.1 hz
  obtain ⟨hfrom, htag⟩ := hf x y hy
  obtain ⟨hfrom', htag'⟩ := hf' y z hyz
  exact ⟨hfrom.trans hfrom', fun r hr hs hx => htag' r hr hs (htag r (hfiring' r hr hs) hs hx)⟩

/-- A table of which some records are removed, and nothing else of it changed. -/
theorem Keeps.of_filter {s t : State} (hheld : t.resetHeld = s.resetHeld) (hnow : t.now = s.now)
    (himage : t.port.image = s.port.image)
    (hlist : ∀ r ∈ t.req.list, r.state = .firing → r ∈ s.req.list) (keep : ClaimRecord → Bool)
    (htable : t.table = s.table.filter keep) : Keeps s t := by
  refine ⟨hheld, hnow, himage, hlist, Option.guard keep, by rw [htable, List.filterMap_eq_filter], fun x y h => ?_⟩
  obtain ⟨rfl, -⟩ := Option.guard_eq_some_iff.1 h
  exact ⟨.refl x, fun _ _ _ h => h⟩

/-- The same table. -/
theorem Keeps.of_table_eq {s t : State} (hheld : t.resetHeld = s.resetHeld) (hnow : t.now = s.now)
    (himage : t.port.image = s.port.image)
    (hlist : ∀ r ∈ t.req.list, r.state = .firing → r ∈ s.req.list) (htable : t.table = s.table) : Keeps s t :=
  .of_filter hheld hnow himage hlist (fun _ => true) (by rw [htable, List.filter_true])

/-- A table from which everything is gone. -/
theorem Keeps.of_table_nil {s t : State} (hheld : t.resetHeld = s.resetHeld) (hnow : t.now = s.now)
    (himage : t.port.image = s.port.image)
    (hlist : ∀ r ∈ t.req.list, r.state = .firing → r ∈ s.req.list) (htable : t.table = []) : Keeps s t :=
  .of_filter hheld hnow himage hlist (fun _ => false) (by rw [htable, List.filter_false])

/-! ### The invariants along `Keeps` -/

section Along

variable {s t : State} (h : Keeps s t)
include h

theorem Keeps.mem_table {y : ClaimRecord} (hy : y ∈ t.table) : ∃ x ∈ s.table, x.From y
    ∧ ∀ r ∈ t.req.list, r.state = .firing → x.tag = some r.tag → y.tag = some r.tag := by
  obtain ⟨-, -, -, -, f, htable, hf⟩ := h
  rw [htable] at hy
  obtain ⟨x, hx, hxy⟩ := List.mem_filterMap.1 hy
  exact ⟨x, hx, hf x y hxy⟩

/-- A relation of two records that tags and hold expiry do not touch. -/
theorem Keeps.pairwise {R R' : ClaimRecord → ClaimRecord → Prop} (hR : s.table.Pairwise R)
    (hfrom : ∀ x x' y y', x.From y → x'.From y' → R x x' → R' y y') : t.table.Pairwise R' := by
  obtain ⟨-, -, -, -, f, htable, hf⟩ := h
  rw [htable, List.pairwise_filterMap]
  refine hR.imp fun {x x'} hxx y hy y' hy' => ?_
  exact hfrom x x' y y' (hf x y hy).1 (hf x' y' hy').1 hxx

/-- The records of the new table in any stretch weigh no more than those of the old one. -/
theorem Keeps.weight_le (u : Tick) (len : Nat) :
    ((t.table.filter (startsWithin u len)).map (fun x => x.weight.toNat)).sum
      ≤ ((s.table.filter (startsWithin u len)).map (fun x => x.weight.toNat)).sum := by
  obtain ⟨-, -, -, -, f, htable, hf⟩ := h
  rw [htable]
  induction s.table with
  | nil => simp
  | cons x rest ih =>
    rw [List.filterMap_cons]
    cases hy : f x with
    | none =>
      refine ih.trans ?_
      rw [List.filter_cons]
      split <;> simp
    | some y =>
      obtain ⟨⟨-, -, -, -, hweight, hstart, -, -⟩, -⟩ := hf x y hy
      have hwithin : startsWithin u len y = startsWithin u len x := by simp only [startsWithin, hstart]
      rw [List.filter_cons, List.filter_cons, hwithin]
      split
      · simp only [List.map_cons, List.sum_cons, hweight]
        omega
      · exact ih

theorem Keeps.tableInv (hs : tableInv s) : tableInv t := by
  obtain ⟨hlength, hnames, hspaced, hbudget⟩ := hs
  refine ⟨?_, ?_, ?_, fun u => ?_⟩
  · obtain ⟨f, htable, -⟩ := h.table
    rw [htable]
    exact (List.length_filterMap_le _ _).trans hlength
  · refine h.pairwise hnames fun x x' y y' hxy hxy' hne => ?_
    rw [hxy.owner, hxy'.owner, hxy.seq, hxy'.seq]
    exact hne
  · refine h.pairwise hspaced fun x x' y y' hxy hxy' hsp => ?_
    unfold spaced at *
    rw [State.params_congr h.image, hxy.start, hxy'.start, hxy.group, hxy'.group]
    exact hsp
  · rw [State.params_congr h.image]
    exact (h.weight_le u _).trans (hbudget u)

theorem Keeps.orderInv (hs : orderInv s) : orderInv t := by
  obtain ⟨hsorted, hspan⟩ := hs
  refine ⟨h.pairwise hsorted fun x x' y y' hxy hxy' hlater => ?_, fun y hy => ?_⟩
  · rw [hxy.start, hxy'.start]
    exact hlater
  · obtain ⟨x, hx, hxy, -⟩ := h.mem_table hy
    rw [State.params_congr h.image, h.now, hxy.start]
    exact hspan x hx

theorem Keeps.recordInv (hs : recordInv s) : recordInv t := by
  intro y hy
  obtain ⟨x, hx, hxy, -⟩ := h.mem_table hy
  obtain ⟨hoffset, hreceived, hhold⟩ := hs x hx
  rw [State.params_congr h.image, h.now, hxy.start, hxy.received]
  exact ⟨hoffset, hreceived, fun hp => hhold (hxy.state hp)⟩

theorem Keeps.channelInv (hs : channelInv s) : channelInv t := by
  obtain ⟨hown, hfiring⟩ := hs
  refine ⟨h.pairwise hown fun x x' y y' hxy hxy' hapart => ?_, fun r hr hf u hu y hy howner htag hchannel => ?_⟩
  · simp only [hxy.owner, hxy'.owner, hxy.cls, hxy'.cls, hxy.start, hxy'.start, State.ownId_congr h.image,
      State.channelOf_congr h.image, State.classOf_congr h.image]
    exact hapart
  · obtain ⟨x, hx, hxy, hkept⟩ := h.mem_table hy
    rw [State.ownId_congr h.image, hxy.owner] at howner
    rw [State.channelOf_congr h.image, State.channelOf_congr h.image, hxy.cls] at hchannel
    rw [State.classOf_congr h.image, State.classOf_congr h.image, hxy.cls, hxy.start]
    exact hfiring r (h.firing r hr hf) hf u hu x hx howner (fun hx => htag (hkept r hr hf hx)) hchannel

end Along

/-- The drive's invariant speaks of the drive and the tick. -/
theorem driveInv_congr {s t : State} (hs : driveInv s) (hdrive : t.stop.drive = s.stop.drive)
    (hnow : t.now = s.now) : driveInv t := by
  intro c start finish pulling ht
  rw [hnow]
  exact hs c start finish pulling (hdrive ▸ ht)

/-- Outputs and the FIRING requests unchanged. -/
theorem outputInv_congr {s t : State} (hs : outputInv s) (himage : t.port.image = s.port.image)
    (hout : t.out = s.out) (hfiring : ∀ r, r.state = .firing → (r ∈ t.req.list ↔ r ∈ s.req.list)) :
    outputInv t := by
  have hchannel : ∀ c, t.channel c = s.channel c := fun c => by simp only [State.channel, hout]
  have hentry : ∀ r u, entryOf t r u = entryOf s r u := fun r u => by
    simp only [entryOf, State.classOf_congr himage]
  obtain ⟨hbusy, hentries⟩ := hs
  refine ⟨fun r hr hf => ?_, fun c e he => ?_⟩
  · simp only [hchannel, State.channelOf_congr himage, hentry]
    exact hbusy r ((hfiring r hf).1 hr) hf
  · obtain ⟨r, hr, hf, hc, u, hu, hru⟩ := hentries c e (hchannel c ▸ he)
    exact ⟨r, (hfiring r hf).2 hr, hf, (State.channelOf_congr himage r.cls).trans hc, u, hu,
      hru.trans (hentry r u).symm⟩

/-- A change that keeps the table, the FIRING requests, the outputs and the drive keeps the invariants, if it keeps
those of the station and of the requests. -/
theorem Sound.of_keeps {s t : State} (hs : Sound s) (h : Keeps s t) (hstation : stationInv t)
    (hrequest : requestInv t) (houtput : outputInv t) (hdrive : t.stop.drive = s.stop.drive) : Sound t where
  running := h.held.trans hs.running
  station := hstation
  request := hrequest
  output := houtput
  channel := h.channelInv hs.channel
  table := h.tableInv hs.table
  order := h.orderInv hs.order
  record := h.recordInv hs.record
  drive := driveInv_congr hs.drive hdrive h.now

end Sys2Proof.Machine
end

section
/-!
PROOFS. Events at the request list keep the invariants: the bounds of the requests (R127 to R135) hold after any
event whose fates are `fair`, and the rest follows along `Keeps`.
-/

namespace Sys2Proof.Machine

/-! ### The list after an event -/

/-- What an event leaves listed of a request. -/
def stillListed (d : Request → Disposition) (r : Request) : Option Request :=
  match d r with
  | .stay q | .front q => some q
  | .leave _ _ => none

theorem stillListed_eq_some (d : Request → Disposition) (r q : Request) :
    stillListed d r = some q ↔ d r = .front q ∨ d r = .stay q := by
  unfold stillListed
  cases d r <;> simp

/-- Up to its order the list is what each request leaves. -/
theorem State.settle_list_perm (s : State) (tags : List Byte) (d : Request → Disposition) :
    (s.settle tags d).req.list.Perm (s.req.list.filterMap (stillListed d)) := by
  have hsplit : ∀ l : List Request,
      (l.filterMap (fronts d) ++ l.filterMap (stays d)).Perm (l.filterMap (stillListed d)) := by
    intro l
    induction l with
    | nil => exact .refl _
    | cons r rest ih =>
      cases hd : d r with
      | front q => simpa [List.filterMap_cons, fronts, stays, stillListed, hd] using ih.cons q
      | stay q =>
        simpa [List.filterMap_cons, fronts, stays, stillListed, hd] using List.perm_middle.trans (ih.cons q)
      | leave o why => simpa [List.filterMap_cons, fronts, stays, stillListed, hd] using ih
  rw [State.settle_list]
  exact ((orderByKey_perm _ _).append_right _).trans (hsplit _)

/-- Tags that the fates keep stand in the new list as in the old one. -/
theorem tags_filterMap_sublist (f : Request → Option Request) (l : List Request)
    (hf : ∀ r ∈ l, ∀ q, f r = some q → q.tag = r.tag) :
    ((l.filterMap f).map Request.tag).Sublist (l.map Request.tag) := by
  induction l with
  | nil => exact .slnil
  | cons r rest ih =>
    obtain ⟨hr, hrest⟩ := List.forall_mem_cons.1 hf
    cases hq : f r with
    | none => rw [List.filterMap_cons_none hq]; exact (ih hrest).cons _
    | some q =>
      rw [List.filterMap_cons_some hq, List.map_cons, List.map_cons, hr q hq]
      exact (ih hrest).cons_cons _

/-- A property that no fate creates is met by no more requests than before. -/
theorem countP_filterMap_le (f : Request → Option Request) (p : Request → Bool) (l : List Request)
    (hf : ∀ r ∈ l, ∀ q, f r = some q → p q = true → p r = true) : (l.filterMap f).countP p ≤ l.countP p := by
  induction l with
  | nil => exact Nat.le_refl _
  | cons r rest ih =>
    obtain ⟨hr, hrest⟩ := List.forall_mem_cons.1 hf
    have hle := ih hrest
    cases hq : f r with
    | none =>
      rw [List.filterMap_cons_none hq, List.countP_cons]
      omega
    | some q =>
      have hpq := hr q hq
      rw [List.filterMap_cons_some hq, List.countP_cons, List.countP_cons]
      cases hp : p q with
      | false =>
        rw [if_neg Bool.false_ne_true]
        omega
      | true =>
        rw [if_pos rfl, if_pos (hpq hp)]
        omega

/-! ### Fair fates -/

/-- The request may become `q` without passing a bound: one tag, no new negotiation, attempts within R135. -/
structure Request.Becomes (r q : Request) : Prop where
  tag : q.tag = r.tag
  negotiating : q.negotiating = true → r.negotiating = true
  attempts : q.attempts ≤ 3
  waiting : q.state = .waiting ∨ q.state = .sending → q.attempts ≤ 2

/-- A request stays as it is, or, unless it fires, becomes another within the bounds, or leaves. -/
def Disposition.Fair (r : Request) : Disposition → Prop
  | .stay q | .front q => q = r ∨ r.state ≠ .firing ∧ q.state ≠ .firing ∧ r.Becomes q
  | .leave _ _ => True

theorem requestInv_becomes {s : State} (hs : requestInv s) {r : Request} (hr : r ∈ s.req.list) : r.Becomes r := by
  obtain ⟨-, -, -, -, -, hattempts, -⟩ := hs
  obtain ⟨hthree, htwo⟩ := hattempts r hr
  exact ⟨rfl, id, hthree, htwo⟩

/-- The bounds of the requests after an event that leaves every listed request within its bounds (R127 to R135). -/
theorem requestInv_settle_of_becomes {s : State} {d : Request → Disposition} (tags : List Byte) (hs : requestInv s)
    (hbecomes : ∀ r ∈ s.req.list, ∀ q, stillListed d r = some q → r.Becomes q) :
    requestInv (s.settle tags d) := by
  obtain ⟨hlength, hcredit, htags, hnonzero, hnegotiating, -, hcancels⟩ := hs
  have hperm := s.settle_list_perm tags d
  have hmem : ∀ q ∈ (s.settle tags d).req.list, ∃ r ∈ s.req.list, r.Becomes q := fun q hq => by
    obtain ⟨r, hr, hrq⟩ := List.mem_filterMap.1 (hperm.mem_iff.1 hq)
    exact ⟨r, hr, hbecomes r hr q hrq⟩
  refine ⟨?_, ?_, ?_, fun q hq => ?_, ?_, fun q hq => ?_, ?_⟩
  · rw [hperm.length_eq]
    exact (List.length_filterMap_le _ _).trans hlength
  · rw [s.settle_credit]
    exact hcredit
  · rw [(hperm.map Request.tag).nodup_iff]
    exact htags.sublist (tags_filterMap_sublist _ _ fun r hr q hq => (hbecomes r hr q hq).tag)
  · obtain ⟨r, hr, hrq⟩ := hmem q hq
    rw [hrq.tag]
    exact hnonzero r hr
  · rw [← List.countP_eq_length_filter] at hnegotiating ⊢
    rw [hperm.countP_eq]
    exact (countP_filterMap_le _ _ _ fun r hr q hq => (hbecomes r hr q hq).negotiating).trans hnegotiating
  · obtain ⟨r, hr, hrq⟩ := hmem q hq
    exact ⟨hrq.attempts, hrq.waiting⟩
  · exact (List.length_filter_le _ _).trans hcancels

section Fair

variable {s : State} {d : Request → Disposition} (hd : ∀ r ∈ s.req.list, (d r).Fair r)
include hd

theorem Disposition.fair_listed {r q : Request} (hr : r ∈ s.req.list) (hq : d r = .front q ∨ d r = .stay q) :
    q = r ∨ r.state ≠ .firing ∧ q.state ≠ .firing ∧ r.Becomes q := by
  have h := hd r hr
  obtain hq | hq := hq <;> rw [hq] at h <;> exact h

/-- A FIRING request that is listed afterwards was listed before. -/
theorem State.mem_settle_firing {tags : List Byte} {q : Request} (hq : q ∈ (s.settle tags d).req.list)
    (hf : q.state = .firing) : q ∈ s.req.list ∧ (d q = .front q ∨ d q = .stay q) := by
  obtain ⟨r, hr, hrq⟩ := (s.mem_settle_list tags d q).1 hq
  obtain rfl | ⟨-, hnot, -⟩ := Disposition.fair_listed hd hr hrq
  · exact ⟨hr, hrq⟩
  · exact absurd hf hnot

theorem Disposition.fair_becomes (hs : requestInv s) {r : Request} (hr : r ∈ s.req.list) {q : Request}
    (hq : stillListed d r = some q) : r.Becomes q := by
  obtain rfl | ⟨-, -, h⟩ := Disposition.fair_listed hd hr ((stillListed_eq_some d r q).1 hq)
  · exact requestInv_becomes hs hr
  · exact h

/-- The bounds of the requests after a fair event. -/
theorem requestInv_settle (tags : List Byte) (hs : requestInv s) : requestInv (s.settle tags d) :=
  requestInv_settle_of_becomes tags hs fun _ hr _ hq => Disposition.fair_becomes hd hs hr hq

/-- The table after an event is the table before, but for tags, and FIRING requests keep theirs. -/
theorem Keeps.settle (tags : List Byte) (htags : (s.req.list.map Request.tag).Nodup) :
    Keeps s (s.settle tags d) := by
  have htable : (s.settle tags d).table
      = detach s.ownId ((s.req.list.filterMap (departure d)).map ResultEntry.tag) s.table := rfl
  refine ⟨rfl, rfl, rfl, fun r hr hf => (State.mem_settle_firing hd hr hf).1, ?_⟩
  rw [htable, detach, List.filterMap_eq_map.symm]
  refine ⟨_, rfl, fun x y hy => ?_⟩
  simp only [Function.comp_apply, Option.some.injEq] at hy
  subst hy
  cases hown : ownTag s.ownId x with
  | none => exact ⟨.refl x, fun _ _ _ h => h⟩
  | some g =>
    dsimp only
    split
    · next hgone =>
      refine ⟨⟨rfl, rfl, rfl, rfl, rfl, rfl, rfl, id⟩, fun r hr hf hx => ?_⟩
      obtain ⟨hmem, hlisted⟩ := State.mem_settle_firing hd hr hf
      have hg : g = r.tag := by
        unfold ownTag at hown
        split at hown
        · exact Option.some.inj (hown.symm.trans hx)
        · cases hown
      simp only [List.contains_iff_mem, List.mem_map, List.mem_filterMap] at hgone
      obtain ⟨e, ⟨q, hq, he⟩, heg⟩ := hgone
      have hqr : q = r := eq_of_tag_eq _ htags q r hq hmem <| by
        rw [← hg, ← heg]
        unfold departure at he
        split at he
        · cases he; rfl
        · cases he
        · cases he
      subst hqr
      unfold departure at he
      obtain hlisted | hlisted := hlisted <;> rw [hlisted] at he <;> cases he
    · exact ⟨.refl x, fun _ _ _ h => h⟩

end Fair

/-! ### The station's items while an event is answered -/

/-- The station's items stand, the slots of a station that does not receive stay empty, no record becomes PENDING,
and only FIRING requests come of FIRING ones. -/
theorem stationInv_of_requests {s t : State} (hs : stationInv s) (hctrl : t.ctrl = s.ctrl)
    (hbus : t.bus.receive = s.bus.receive ∧ t.bus.transmit = s.bus.transmit ∧ t.bus.defer = s.bus.defer)
    (hstop : t.stop = s.stop) (hport : t.port.digest = s.port.digest ∧ t.port.image = s.port.image)
    (htable : ∀ y ∈ t.table, ∃ x ∈ s.table, y.state = .pending → x.state = .pending)
    (hslots : s.ctrl.station.receiving = false → s.req.claimSlot = none ∧ s.req.cancelSlots = []
      ∧ s.req.joinSlot = false → t.req.claimSlot = none ∧ t.req.cancelSlots = [] ∧ t.req.joinSlot = false)
    (hlist : ∀ q ∈ t.req.list, ∃ r ∈ s.req.list, r.state = .firing → q.state = .firing)
    (hout : s.out = idleChannels → t.out = idleChannels) : stationInv t := by
  obtain ⟨hcontroller, hconfig, hwithdrawn, ⟨hempty, hsilent⟩, hsending, hmonitor, hquiesce⟩ := hs
  obtain ⟨hreceive, htransmit, hdefer⟩ := hbus
  obtain ⟨hdigest, himage⟩ := hport
  unfold stationInv controllerInv configInv withdrawnInv requestsByStateInv sendingInv monitorInv quiesceInv
  rw [hctrl, hreceive, htransmit, hdefer, hstop, hdigest, himage]
  refine ⟨hcontroller, hconfig, fun hoff => ?_, ⟨fun hoff => ?_, fun hoff q hq => ?_⟩, hsending, hmonitor,
    fun hq y hy => ?_⟩
  · obtain ⟨h1, h2, h3, h4, h5, h6⟩ := hwithdrawn hoff
    refine ⟨h1, h2, h3, h4, List.eq_nil_iff_forall_not_mem.2 fun y hy => ?_, hslots hoff h6⟩
    obtain ⟨x, hx, -⟩ := htable y hy
    rw [h5] at hx
    exact List.not_mem_nil hx
  · obtain ⟨hnil, hidle⟩ := hempty hoff
    refine ⟨List.eq_nil_iff_forall_not_mem.2 fun q hq => ?_, hout hidle⟩
    obtain ⟨r, hr, -⟩ := hlist q hq
    rw [hnil] at hr
    exact List.not_mem_nil hr
  · obtain ⟨r, hr, hrq⟩ := hlist q hq
    exact hrq (hsilent hoff r hr)
  · obtain ⟨x, hx, hxy⟩ := htable y hy
    have hconfirmed := hquiesce hq x hx
    cases hstate : y.state with
    | confirmed => rfl
    | pending => rw [hxy hstate] at hconfirmed; cases hconfirmed

/-- An event that answers every request fairly and leaves the FIRING ones alone keeps the invariants. -/
theorem Sound.settle {s : State} (hs : Sound s) (tags : List Byte) {d : Request → Disposition}
    (hd : ∀ r ∈ s.req.list, (d r).Fair r) (hfiring : ∀ r ∈ s.req.list, r.state = .firing → d r = .stay r) :
    Sound (s.settle tags d) := by
  obtain ⟨-, -, htags, -⟩ := hs.request
  have hkeeps := Keeps.settle hd tags htags
  refine hs.of_keeps hkeeps ?_ (requestInv_settle hd tags hs.request) ?_ rfl
  · refine stationInv_of_requests hs.station rfl ⟨rfl, rfl, rfl⟩ rfl ⟨rfl, rfl⟩ (fun y hy => ?_) ?_
      (fun q hq => ?_) id
    · obtain ⟨x, hx, hxy, -⟩ := hkeeps.mem_table hy
      exact ⟨x, hx, hxy.state⟩
    · rintro - ⟨hclaim, hcancels, hjoin⟩
      refine ⟨?_, ?_, hjoin⟩
      · change s.req.claimSlot.filter _ = none
        rw [hclaim]
        rfl
      · change s.req.cancelSlots.filter _ = []
        rw [hcancels]
        rfl
    · obtain ⟨r, hr, hrq⟩ := (s.mem_settle_list tags d q).1 hq
      refine ⟨r, hr, fun hf => ?_⟩
      obtain rfl | ⟨hnot, -⟩ := Disposition.fair_listed hd hr hrq
      · exact hf
      · exact absurd hf hnot
  · refine outputInv_congr hs.output rfl rfl fun r hf => ⟨fun hr => (State.mem_settle_firing hd hr hf).1, fun hr => ?_⟩
    exact (s.mem_settle_list tags d r).2 ⟨r, hr, .inr (hfiring r hr hf)⟩

/-- A change of one request is an event at which every request stays. -/
theorem State.updateRequest_eq_settle (s : State) (tag : Byte) (f : Request → Request) :
    s.updateRequest tag f = s.settle [] (fun r => .stay (if r.tag = tag then f r else r)) := by
  have hnone : s.req.list.filterMap (departure fun r => .stay (if r.tag = tag then f r else r)) = [] :=
    List.filterMap_eq_nil_iff.2 fun _ _ => rfl
  have hfront : s.req.list.filterMap (fronts fun r => .stay (if r.tag = tag then f r else r)) = [] :=
    List.filterMap_eq_nil_iff.2 fun _ _ => rfl
  have hstay : s.req.list.filterMap (stays fun r => .stay (if r.tag = tag then f r else r))
      = s.req.list.map (fun r => if r.tag = tag then f r else r) :=
    congrFun List.filterMap_eq_map' _
  have hslot : ∀ o : Option Byte, o.filter (fun _ => true) = o := fun o => by cases o <;> rfl
  simp [State.settle, State.updateRequest, hnone, hfront, hstay, hslot]

/-- Changing one request that does not fire, within the bounds, keeps the invariants. -/
theorem Sound.updateRequest {s : State} (hs : Sound s) (tag : Byte) (f : Request → Request)
    (hf : ∀ r ∈ s.req.list, r.tag = tag → f r = r ∨ r.state ≠ .firing ∧ (f r).state ≠ .firing ∧ r.Becomes (f r)) :
    Sound (s.updateRequest tag f) := by
  rw [State.updateRequest_eq_settle]
  refine hs.settle [] (fun r hr => ?_) (fun r hr hfiring => ?_)
  · by_cases htag : r.tag = tag
    · rw [if_pos htag]
      exact hf r hr htag
    · rw [if_neg htag]
      exact .inl rfl
  · by_cases htag : r.tag = tag
    · rw [if_pos htag]
      obtain heq | ⟨hnot, -⟩ := hf r hr htag
      · rw [heq]
      · exact absurd hfiring hnot
    · rw [if_neg htag]

/-- A request that does not fire may leave. -/
theorem Sound.leaveRequest {s : State} (hs : Sound s) (tag : Byte) (o : ResultOutcome) (why : Reason)
    (hf : ∀ r ∈ s.req.list, r.tag = tag → r.state ≠ .firing) : Sound (s.leaveRequest tag o why) := by
  refine hs.settle [] (fun r _ => ?_) (fun r hr hfiring => ?_)
  · split
    · trivial
    · exact .inl rfl
  · rw [if_neg fun htag => hf r hr htag hfiring]

end Sys2Proof.Machine
end

section
/-!
PROOFS. Detections, the drive and the exits keep the invariants (R89 to R100, R117 to R120).
-/

namespace Sys2Proof.Machine

/-! ### Changes of the station's items alone -/

/-- A change of the station's items that leaves table, requests, results, outputs and drive as they are. -/
theorem Sound.of_station {s t : State} (hs : Sound s) (hstation : stationInv t) (hheld : t.resetHeld = s.resetHeld)
    (hnow : t.now = s.now) (himage : t.port.image = s.port.image) (hout : t.out = s.out) (htable : t.table = s.table)
    (hlist : t.req.list = s.req.list) (hresults : t.port.results = s.port.results)
    (hcancels : t.req.cancelSlots.length ≤ 2) (hdrive : t.stop.drive = s.stop.drive) : Sound t := by
  refine hs.of_keeps (.of_table_eq hheld hnow himage (fun r hr _ => hlist ▸ hr) htable) hstation ?_ ?_ hdrive
  · obtain ⟨hlength, hcredit, htags, hnonzero, hnegotiating, hattempts, -⟩ := hs.request
    unfold requestInv
    rw [hlist, hresults]
    exact ⟨hlength, hcredit, htags, hnonzero, hnegotiating, hattempts, hcancels⟩
  · exact outputInv_congr hs.output himage hout fun r _ => by rw [hlist]

/-- In the states that receive, what the others empty may hold anything. -/
theorem stationInv_of_receiving {s : State} (hreceiving : s.ctrl.station.receiving = true)
    (hcontroller : controllerInv s) (hconfig : configInv s) (hsending : sendingInv s) (hmonitor : monitorInv s)
    (hquiesce : quiesceInv s) : stationInv s := by
  refine ⟨hcontroller, hconfig, fun hoff => ?_, ⟨fun hoff => ?_, fun hoff => ?_⟩, hsending, hmonitor, hquiesce⟩
  · rw [hreceiving] at hoff; cases hoff
  · obtain hoff | hoff := hoff <;> rw [hoff] at hreceiving <;> cases hreceiving
  · rw [hoff] at hreceiving; cases hreceiving

/-- The invariant of a station that has withdrawn: what every exit clears is clear. -/
theorem stationInv_of_withdrawn {s : State} (hoff : s.ctrl.station.receiving = false)
    (hctrl : s.ctrl.remembered = none ∧ s.ctrl.joinEnd = none ∧ s.ctrl.joinOwed = false ∧ s.ctrl.moveWaits = false)
    (hidentity : s.ctrl.identityOwed = true → s.ctrl.station ≠ .offline) (hconfig : configInv s)
    (hwithdrawn : s.bus.receive = .unsynchronised 0 ∧ s.bus.transmit = .quiet ∧ s.bus.defer = false
      ∧ s.stop = s.stop.unobserved ∧ s.table = []
      ∧ s.req.claimSlot = none ∧ s.req.cancelSlots = [] ∧ s.req.joinSlot = false)
    (hrequests : requestsByStateInv s) : stationInv s := by
  obtain ⟨hremembered, hend, howed, hwaits⟩ := hctrl
  have ⟨_, hquiet, _, hunobserved, _⟩ := hwithdrawn
  have hnotQuiesce : s.ctrl.station ≠ .quiesce := fun h => by rw [h] at hoff; cases hoff
  have hnotListening : s.ctrl.station ≠ .listening := fun h => by rw [h] at hoff; cases hoff
  have hhigh : s.stop.lineLow = false := by rw [hunobserved]; rfl
  have hfall : s.stop.fallTick = none := by rw [hunobserved]; rfl
  have hend' : s.stop.quiesceEnd = none := by rw [hunobserved]; rfl
  refine ⟨?_, hconfig, fun _ => hwithdrawn, hrequests, fun x hx => ?_, ?_, fun h => absurd h hnotQuiesce⟩
  · refine ⟨?_, ?_, fun _ => ⟨howed, hwaits⟩, hidentity⟩
    · simp [hremembered, hnotQuiesce]
    · simp [hremembered, hend, hnotListening]
  · rw [hquiet] at hx; cases hx
  · simp [monitorInv, hhigh, hfall, hend']

theorem configInv.outside {s : State} (h : configInv s) (hon : s.ctrl.station ≠ .offline) :
    s.port.digest.isSome = true ∧ s.port.image.any validImage = true := ⟨h.1.2 hon, h.2 hon⟩

theorem Sound.config {s : State} (hs : Sound s) : configInv s := by
  obtain ⟨-, hconfig, -⟩ := hs.station
  exact hconfig

/-! ### The drive (R98, R99) -/

theorem Drive.pulse_ticks (c : PulseClass) : c.ticks = 24 ∨ c.ticks = 96 := by cases c <;> simp [PulseClass.ticks]

theorem freshDrive_eq (c : PulseClass) (now : Tick) :
    freshDrive c now = .driving c (plus now 2) (plus (plus now 2) c.ticks) false := by
  simp only [freshDrive, plus, BitVec.add_assoc, BitVec.ofNat_add]

/-- A drive request leaves a drive within its ticks (R98, R99). -/
theorem driveInv_requestDrive {s : State} (hs : driveInv s) (c : PulseClass) :
    driveInv { s with stop := { s.stop with drive := requestDrive s.stop.drive c s.now } } := by
  have hfresh : ∀ k start finish pulling, freshDrive c s.now = .driving k start finish pulling →
      finish = plus start k.ticks ∧ tickDiff start s.now ≤ 2 ∧ tickDiff s.now finish ≤ 0
      ∧ (pulling = true → 0 ≤ tickDiff s.now start) ∧ (pulling = false → tickDiff s.now start ≤ 0) := by
    intro k start finish pulling h
    have hto : tickDiff s.now (plus s.now 2) = -2 := tickDiff_plus_right s.now 2 (by omega)
    have hticks := Drive.pulse_ticks c
    have hlast := tickDiff_plus_right (plus s.now 2) c.ticks (by omega)
    have hend := tickDiff_chain s.now (plus s.now 2) (plus (plus s.now 2) c.ticks) (by omega) (by omega)
    rw [freshDrive_eq] at h
    cases h
    exact ⟨rfl, le_of_eq (tickDiff_plus s.now 2 (by omega)), by omega, nofun, fun _ => by omega⟩
  intro k start finish pulling h
  replace h : requestDrive s.stop.drive c s.now = .driving k start finish pulling := h
  unfold requestDrive at h
  split at h
  · exact hfresh k start finish pulling h
  · next old start' finish' pulling' hdrive =>
    split at h
    · exact hfresh k start finish pulling h
    · split at h
      · cases h
        obtain ⟨hfinish, hstart, hover, hpulling, hnot⟩ := hs _ _ _ _ hdrive
        have hshort : tickDiff finish' start = 24 := by
          rw [hfinish]
          exact tickDiff_plus start 24 (by omega)
        have hlong : tickDiff start (plus start 96) = -96 := tickDiff_plus_right start 96 (by omega)
        have hswap := tickDiff_swap finish' start (by omega)
        have hbound := tickDiff_bounds s.now start
        have hbefore := tickDiff_bounds s.now finish'
        have hpast : tickDiff s.now start = tickDiff s.now finish' + 24 := by
          rw [← hshort]
          exact tickDiff_chain s.now finish' start (by omega) (by omega)
        have hahead := tickDiff_swap s.now start (by omega)
        have hend := tickDiff_chain s.now start (plus start 96) (by omega) (by omega)
        refine ⟨rfl, hstart, ?_, hpulling, hnot⟩
        show tickDiff s.now (plus start 96) ≤ 0
        omega
      · cases h
        exact hs _ _ _ _ hdrive

/-- A change of the drive keeps the invariants if it keeps the drive within its ticks. -/
theorem Sound.withDrive {s : State} (hs : Sound s) (drive : Drive)
    (hdrive : driveInv { s with stop := { s.stop with drive := drive } }) :
    Sound { s with stop := { s.stop with drive := drive } } where
  running := hs.running
  station := by
    obtain ⟨hcontroller, hconfig, hwithdrawn, hrequests, hsending, hmonitor, hquiesce⟩ := hs.station
    refine ⟨hcontroller, hconfig, fun hoff => ?_, hrequests, hsending, hmonitor, hquiesce⟩
    obtain ⟨h1, h2, h3, h4, h5⟩ := hwithdrawn hoff
    refine ⟨h1, h2, h3, ?_, h5⟩
    show { s.stop with drive := drive } = { s.stop.unobserved with drive := drive }
    rw [← h4]
  request := hs.request
  output := hs.output
  channel := hs.channel
  table := hs.table
  order := hs.order
  record := hs.record
  drive := hdrive

theorem Sound.requestPulse {s : State} (hs : Sound s) (c : PulseClass) : Sound (s.requestPulse c) :=
  hs.withDrive _ (driveInv_requestDrive hs.drive c)

/-! ### The exits from the working states (R89, R90, R92) -/

theorem Request.onExit_fair (why : Reason) (r : Request) : (r.onExit why).Fair r := by
  obtain ⟨o, w, h⟩ := Request.onExit_leaves why r
  rw [h]
  trivial

theorem outputInv_of_empty {s : State} (hlist : s.req.list = []) (hout : s.out = idleChannels) : outputInv s := by
  refine ⟨fun r hr => ?_, fun c e he => ?_⟩
  · rw [hlist] at hr; cases hr
  · have hidle : s.channel c = none := by simp [State.channel, hout, idleChannels]
    rw [hidle] at he; cases he

theorem requestInv_of_empty {s : State} (hlist : s.req.list = []) (hcancels : s.req.cancelSlots = [])
    (hresults : s.port.results.length ≤ 16) : requestInv s := by
  unfold requestInv
  rw [hlist, hcancels]
  simpa using hresults

/-- The exit to OFFLINE or CONFIG_FAULT: nothing is listed, nothing fires, the table is empty. -/
theorem Sound.of_fallen {s t : State} (hs : Sound s) (hstation : stationInv t) (hheld : t.resetHeld = s.resetHeld)
    (hnow : t.now = s.now) (himage : t.port.image = s.port.image) (hlist : t.req.list = [])
    (hcancels : t.req.cancelSlots = [])
    (hout : t.out = idleChannels) (htable : t.table = []) (hdrive : t.stop.drive = s.stop.drive)
    (hresults : t.port.results.length = s.port.results.length + s.req.list.length) : Sound t := by
  have hnone : ∀ r ∈ t.req.list, r.state = .firing → r ∈ s.req.list := fun r hr => by rw [hlist] at hr; cases hr
  obtain ⟨-, hcredit, -⟩ := hs.request
  exact hs.of_keeps (.of_table_nil hheld hnow himage hnone htable) hstation
    (requestInv_of_empty hlist hcancels (by omega)) (outputInv_of_empty hlist hout) hdrive

theorem Sound.enterConfigFault {s : State} (hs : Sound s) (hon : s.ctrl.station ≠ .offline) :
    Sound s.enterConfigFault := by
  obtain ⟨hdigest, hvalid⟩ := hs.config.outside hon
  rw [State.enterConfigFault_eq]
  refine hs.of_fallen ?_ rfl rfl rfl rfl rfl rfl rfl rfl (by simp)
  refine stationInv_of_withdrawn rfl ⟨rfl, rfl, rfl, rfl⟩ nofun ⟨?_, fun _ => hvalid⟩
    ⟨rfl, rfl, rfl, rfl, rfl, rfl, rfl, rfl⟩ ⟨fun _ => ⟨rfl, rfl⟩, nofun⟩
  exact ⟨fun _ => nofun, fun _ => hdigest⟩

theorem Sound.enterOffline {s : State} (hs : Sound s) : Sound s.enterOffline := by
  rw [State.enterOffline_eq]
  refine hs.of_fallen ?_ rfl rfl rfl rfl rfl rfl rfl rfl (by simp)
  refine stationInv_of_withdrawn rfl ⟨rfl, rfl, rfl, rfl⟩ nofun ⟨?_, fun h => absurd rfl h⟩
    ⟨rfl, rfl, rfl, rfl, rfl, rfl, rfl, rfl⟩ ⟨fun _ => ⟨rfl, rfl⟩, nofun⟩
  exact ⟨nofun, fun h => absurd rfl h⟩

theorem Request.onSilent_fair (r : Request) : (r.onSilent).Fair r := by
  unfold Request.onSilent
  split
  · exact .inl rfl
  · trivial
  all_goals split <;> trivial

theorem Request.onSilent_firing {r : Request} (h : r.state = .firing) : r.onSilent = .stay r := by
  simp only [Request.onSilent, h]

/-- After the entry to SILENT only FIRING requests are listed (R147). -/
theorem State.mem_enterSilent_list {s : State} {r : Request} (hr : r ∈ s.enterSilent.req.list) :
    r ∈ s.req.list ∧ r.state = .firing := by
  rw [State.enterSilent_eq] at hr
  simpa using hr

theorem Sound.enterSilent {s : State} (hs : Sound s) (hon : s.ctrl.station ≠ .offline) : Sound s.enterSilent := by
  obtain ⟨hdigest, hvalid⟩ := hs.config.outside hon
  have hsettled : Sound (s.settle [] Request.onSilent) :=
    hs.settle [] (fun r _ => r.onSilent_fair) (fun r _ hf => Request.onSilent_firing hf)
  obtain ⟨hlength, hcredit, htags, hnonzero, hnegotiating, hattempts, -⟩ := hsettled.request
  refine hsettled.of_keeps (.of_table_nil rfl rfl rfl (fun _ hr _ => hr) rfl) ?_
    ⟨hlength, hcredit, htags, hnonzero, hnegotiating, hattempts, Nat.zero_le 2⟩
    (outputInv_congr hsettled.output rfl rfl fun _ _ => .rfl) rfl
  refine stationInv_of_withdrawn rfl ⟨rfl, rfl, rfl, rfl⟩ nofun ⟨⟨nofun, fun _ => hdigest⟩, fun _ => hvalid⟩
    ⟨rfl, rfl, rfl, rfl, rfl, rfl, rfl, rfl⟩ ⟨nofun, fun _ r hr => ?_⟩
  exact (State.mem_enterSilent_list hr).2

/-! ### Taking a detection (R93, R117 to R120) -/

/-- What taking a detection comes to: a pulse is asked for, or the station goes to SILENT or CONFIG_FAULT, or its
entry to CONFIG_FAULT waits for the drive start. -/
theorem State.takeDetection_cases (s : State) (d : Detection) :
    (∃ c, s.takeDetection d = (s.recordDetection d).requestPulse c)
    ∨ s.takeDetection d = (s.recordDetection d).enterSilent
    ∨ s.takeDetection d = ((s.recordDetection d).requestPulse .long).enterConfigFault
    ∨ s.takeDetection d = { (s.recordDetection d).requestPulse .long with
        ctrl := { s.ctrl with identityOwed := true } } := by
  unfold State.takeDetection
  dsimp only
  split
  · unfold State.takeIdentity
    dsimp only
    split
    · exact .inr (.inr (.inl rfl))
    · exact .inr (.inr (.inr rfl))
  · exact .inr (.inl rfl)
  · exact .inl ⟨_, rfl⟩

theorem Sound.recordDetection {s : State} (hs : Sound s) (d : Detection) : Sound (s.recordDetection d) :=
  hs.of_core rfl

/-- An IDENTITY waits only outside OFFLINE (R69, R100). -/
theorem Sound.owingIdentity {s : State} (hs : Sound s) (hon : s.ctrl.station ≠ .offline) :
    Sound { s with ctrl := { s.ctrl with identityOwed := true } } := by
  obtain ⟨⟨hremembered, hend, howed, -⟩, hconfig, hwithdrawn, hrequests, hsending, hmonitor, hquiesce⟩ := hs.station
  obtain ⟨-, -, -, -, -, -, hcancels⟩ := hs.request
  exact hs.of_station ⟨⟨hremembered, hend, howed, fun _ => hon⟩, hconfig, hwithdrawn, hrequests, hsending, hmonitor,
    hquiesce⟩ rfl rfl rfl rfl rfl rfl rfl hcancels rfl

theorem Sound.takeDetection {s : State} (hs : Sound s) (hon : s.ctrl.station ≠ .offline) (d : Detection) :
    Sound (s.takeDetection d) := by
  have hrecorded := hs.recordDetection d
  obtain ⟨c, h⟩ | h | h | h := s.takeDetection_cases d <;> rw [h]
  · exact hrecorded.requestPulse c
  · exact hrecorded.enterSilent hon
  · exact (hrecorded.requestPulse .long).enterConfigFault hon
  · exact (hrecorded.requestPulse .long).owingIdentity hon

/-- A detection leaves a released LINK released. -/
theorem State.takeDetection_quiet {s : State} (h : s.bus.transmit = .quiet) (d : Detection) :
    (s.takeDetection d).bus.transmit = .quiet := by
  obtain ⟨c, h'⟩ | h' | h' | h' := s.takeDetection_cases d <;> rw [h']
  · exact h
  · rfl
  · rfl
  · exact h

end Sys2Proof.Machine
end

section
/-!
PROOFS. The recovery actions and the moves between the working states keep the invariants (R82 to R87, R103 to R106).
-/

namespace Sys2Proof.Machine

/-! ### Fates of a claim that no record stands for -/

theorem Request.becomes_backToWaiting {r : Request} (h : r.attempts ≤ 2) : r.Becomes r.backToWaiting :=
  ⟨rfl, nofun, h.trans (by omega), fun _ => h⟩

theorem Request.voided_fair {r : Request} (h : r.state ≠ .firing) : r.voided.Fair r := by
  unfold Request.voided
  split
  · next hfew => exact .inr ⟨h, nofun, Request.becomes_backToWaiting (by omega)⟩
  · trivial

theorem Request.onVoided_fair (r : Request) : r.onVoided.Fair r := by
  unfold Request.onVoided
  split
  · next h => exact Request.voided_fair (by rw [h]; nofun)
  · next h => exact Request.voided_fair (by rw [h]; nofun)
  · trivial
  all_goals exact .inl rfl

theorem Request.onVoided_firing {r : Request} (h : r.state = .firing) : r.onVoided = .stay r := by
  simp only [Request.onVoided, h]

/-! ### The fall (R30, R86, R103, R138) -/

/-- The tags that the exposure void reports: those of the own PENDING records (R30). -/
def State.exposedTags (s : State) : List Byte :=
  voidedTags s.ownId (s.table.filter (fun x : ClaimRecord => decide (x.state = .pending)))

/-- What the fall makes of a request of this station. -/
def State.fallFate (s : State) : Request → Disposition :=
  Request.onFall s.exposedTags (s.bus.transmit.frame.map Sending.slot) s.now

/-- The exposure void and the answer of the Request Unit at a fall (R30, R138). -/
def State.fallSettled (s : State) : State :=
  State.settle { s with table := s.table.filter (fun x : ClaimRecord => decide (x.state = .confirmed)) }
    s.exposedTags s.fallFate

/-- A fall as one equation (R103). -/
theorem State.takeFall_eq (s : State) : s.takeFall = { s.fallSettled with
    ctrl := s.ctrl.onFall
    bus := { s.bus with receive := .unsynchronised 0, transmit := .quiet }
    roster := unsyncRoster s.roster
    stop := s.stop.onFall s.now
    log := { s.log with flags := { s.log.flags with
      recovery := true
      state := s.log.flags.state || (s.ctrl.station == .listening || s.ctrl.station == .active) } } } := by
  unfold State.takeFall
  dsimp only
  split
  · next h => rw [h, Bool.or_true]; rfl
  · next h => rw [Bool.eq_false_iff.2 h, Bool.or_false]; rfl

theorem Request.onFall_fair (voided : List Byte) (abandoned : Option SlotRef) (now : Tick) {r : Request}
    (hr : r.Becomes r) : (r.onFall voided abandoned now).Fair r := by
  have hback : r.state = .sending → (Disposition.front r.backToWaiting).Fair r := fun h =>
    .inr ⟨by rw [h]; nofun, nofun, Request.becomes_backToWaiting (hr.waiting (.inr h))⟩
  unfold Request.onFall
  split
  · split
    · next h => split <;> [trivial; exact hback h]
    all_goals exact r.onVoided_fair
  · split
    · next h => split <;> [trivial; exact hback h]
    · next h => split <;> [exact Request.voided_fair (by rw [h]; nofun); exact .inl rfl]
    · split <;> [trivial; exact .inl rfl]
    all_goals exact .inl rfl

theorem Request.onFall_firing (voided : List Byte) (abandoned : Option SlotRef) (now : Tick) {r : Request}
    (h : r.state = .firing) : r.onFall voided abandoned now = .stay r := by
  unfold Request.onFall
  rw [h]
  split
  · exact Request.onVoided_firing h
  · rfl

/-- Removing records keeps the invariants. -/
theorem Sound.filterTable {s : State} (hs : Sound s) (keep : ClaimRecord → Bool) :
    Sound { s with table := s.table.filter keep } := by
  refine hs.of_keeps (.of_filter rfl rfl rfl (fun _ hr _ => hr) keep rfl) ?_ hs.request hs.output rfl
  exact stationInv_of_requests hs.station rfl ⟨rfl, rfl, rfl⟩ rfl ⟨rfl, rfl⟩
    (fun y hy => ⟨y, List.mem_of_mem_filter hy, id⟩) (fun _ h => h) (fun q hq => ⟨q, hq, id⟩) id

theorem Sound.fallSettled {s : State} (hs : Sound s) : Sound s.fallSettled :=
  (hs.filterTable _).settle _ (fun _ hr => Request.onFall_fair _ _ _ (requestInv_becomes hs.request hr))
    (fun _ _ hf => Request.onFall_firing _ _ _ hf)

theorem State.fallSettled_confirmed {s : State} {y : ClaimRecord} (hy : y ∈ s.fallSettled.table) :
    y.state = .confirmed := by
  have hmem : y ∈ detach s.ownId ((s.req.list.filterMap (departure s.fallFate)).map ResultEntry.tag)
      (s.table.filter (fun x : ClaimRecord => decide (x.state = .confirmed))) := hy
  obtain ⟨x, hx, rfl⟩ := List.mem_map.1 hmem
  have hconfirmed : x.state = .confirmed := by simpa using (List.mem_filter.1 hx).2
  split
  · split <;> exact hconfirmed
  · exact hconfirmed

/-- The Station Controller after a fall in a state that receives (R86). -/
theorem Controller.onFall_of_receiving {c : Controller} (h : c.station.receiving = true) :
    c.onFall = { c with
      station := .quiesce
      moveWaits := false
      remembered := match c.station with
        | .listening => some .listening
        | .active => some .active
        | _ => c.remembered } := by
  obtain ⟨station, _, _, _, _, _⟩ := c
  cases station with
  | listening | active | quiesce => rfl
  | offline | silent | configFault => cases h

theorem Sound.takeFall {s : State} (hs : Sound s) (hon : s.ctrl.station.receiving = true) : Sound s.takeFall := by
  have hsettled := hs.fallSettled
  obtain ⟨-, -, -, -, -, -, hcancels⟩ := hsettled.request
  obtain ⟨⟨hremembered, hend, -, -⟩, ⟨hdigest, hvalid⟩, -⟩ := hs.station
  have honline : s.ctrl.station ≠ .offline := fun h => by rw [h] at hon; cases hon
  rw [State.takeFall_eq, Controller.onFall_of_receiving hon]
  refine hsettled.of_station ?_ rfl rfl rfl rfl rfl rfl rfl hcancels rfl
  refine stationInv_of_receiving rfl ⟨?_, ?_, nofun, fun _ => nofun⟩ ⟨?_, fun _ => hvalid honline⟩ (fun x hx => ?_)
    ⟨fun _ => rfl, ?_, fun _ => rfl⟩ (fun _ y hy => State.fallSettled_confirmed hy)
  · cases hstation : s.ctrl.station <;> simp_all [StationState.receiving]
  · cases hstation : s.ctrl.station <;> simp_all [StationState.receiving]
  · exact ⟨fun _ => nofun, fun _ => hdigest.2 honline⟩
  · cases hx
  · exact ⟨fun _ => rfl, fun _ => rfl⟩

/-! ### The classification, the rise and the quiesce end (R31, R104 to R106) -/

theorem Sound.drain {s : State} (hs : Sound s) (tick : Tick) : Sound (s.drain tick) := by
  refine (hs.filterTable _).settle _ (fun r _ => ?_) (fun r _ hf => ?_)
  · split
    · exact r.onVoided_fair
    · exact .inl rfl
  · split
    · exact Request.onVoided_firing hf
    · rfl

/-- The classification, and whether BUS_FAULT was raised, stand in no invariant of a station that receives. -/
theorem Sound.withClassification {s : State} (hs : Sound s) (hon : s.ctrl.station.receiving = true)
    (c : Classification) (raised : Bool) :
    Sound { s with stop := { s.stop with classification := c, busFaultRaised := raised } } := by
  obtain ⟨hcontroller, hconfig, -, -, hsending, hmonitor, hquiesce⟩ := hs.station
  obtain ⟨-, -, -, -, -, -, hcancels⟩ := hs.request
  exact hs.of_station (stationInv_of_receiving hon hcontroller hconfig hsending hmonitor hquiesce)
    rfl rfl rfl rfl rfl rfl rfl hcancels rfl

theorem Sound.classifyLong {s : State} (hs : Sound s) (hon : s.ctrl.station.receiving = true) :
    Sound s.classifyLong := by
  have hclassified : Sound (({ s with stop := { s.stop with
      classification := .long (classificationTick s) } }).count .long) :=
    (hs.withClassification hon (.long (classificationTick s)) s.stop.busFaultRaised).of_core rfl
  exact hclassified.drain _

/-- A rise as one equation, but for the count of SHORT pulses (R105). -/
theorem State.takeRise_core (s : State) : ∃ c e, s.takeRise.core = State.core { s with
    ctrl := if s.ctrl.remembered = some .listening then
        { s.ctrl with joinEnd := some (plus s.now s.params.joinInterval) } else s.ctrl
    stop := { s.stop with lineLow := false, fallTick := none, lineTaken := true, classification := c,
                          quiesceEnd := some e } } := by
  unfold State.takeRise
  dsimp only
  split
  · exact ⟨_, _, rfl⟩
  · exact ⟨_, _, rfl⟩

theorem Sound.takeRise {s : State} (hs : Sound s) (hstation : s.ctrl.station = .quiesce) : Sound s.takeRise := by
  obtain ⟨⟨hremembered, hend, -, -⟩, hconfig, -, -, hsending, -, hquiesce⟩ := hs.station
  obtain ⟨-, -, -, -, -, -, hcancels⟩ := hs.request
  have hsome := hremembered.2 hstation
  obtain ⟨c, e, hcore⟩ := s.takeRise_core
  refine Sound.of_core ?_ hcore
  refine hs.of_station (stationInv_of_receiving ?_ ?_ ?_ ?_ ⟨nofun, ⟨nofun, nofun⟩, fun _ => ?_⟩ fun _ => hquiesce
    hstation)
    rfl rfl rfl rfl rfl rfl rfl hcancels rfl
  · dsimp only; split <;> simp [hstation, StationState.receiving]
  · unfold controllerInv
    dsimp only
    split <;> simp_all [StationState.receiving]
  · unfold configInv at *
    dsimp only
    split <;> exact hconfig
  · intro x hx
    dsimp only
    split <;> exact hsending x hx
  · dsimp only; split <;> exact hstation

theorem Sound.placeJoin {s : State} (hs : Sound s) : Sound s.placeJoin := by
  have hplaced : s.ctrl.station = .listening → Sound { s with req := { s.req with joinSlot := true } } := by
    intro hstation
    obtain ⟨hcontroller, hconfig, -, -, hsending, hmonitor, hquiesce⟩ := hs.station
    obtain ⟨-, -, -, -, -, -, hcancels⟩ := hs.request
    have hon : s.ctrl.station.receiving = true := by rw [hstation]; rfl
    exact hs.of_station (stationInv_of_receiving hon hcontroller hconfig hsending hmonitor hquiesce)
      rfl rfl rfl rfl rfl rfl rfl hcancels rfl
  unfold State.placeJoin
  split
  · next h _ => split <;> [exact hplaced h; exact hs]
  · next h _ => split <;> [exact hplaced h; exact hs]
  · exact hs

/-- The return to the remembered state, before an owed JOIN is placed (R87). -/
theorem Sound.resumed {s : State} (hs : Sound s) (hstation : s.ctrl.station = .quiesce) (hlow : s.stop.lineLow = false)
    (hnoEnd : s.stop.quiesceEnd = none) (w : Working) (hw : s.ctrl.remembered = some w) :
    Sound { s.enter w.toState with
      ctrl := { (s.enter w.toState).ctrl with remembered := none }
      bus := { s.bus with defer := false } } := by
  obtain ⟨⟨hremembered, hend, -, -⟩, ⟨hdigest, hvalid⟩, -, -, hsending, ⟨-, hfall, -⟩, -⟩ := hs.station
  obtain ⟨-, -, -, -, -, -, hcancels⟩ := hs.request
  have honline : s.ctrl.station ≠ .offline := by rw [hstation]; nofun
  have hquiet : s.bus.transmit.frame = none := by
    cases hframe : s.bus.transmit.frame with
    | none => rfl
    | some x =>
      obtain ⟨-, h⟩ := hsending x hframe
      rw [hstation] at h
      split at h <;> cases h
  refine hs.of_station (stationInv_of_receiving ?_ ⟨?_, ?_, ?_, fun _ => ?_⟩ ⟨?_, fun _ => hvalid honline⟩
    (fun x hx => ?_) ?_ fun h => ?_) rfl rfl rfl rfl rfl rfl rfl hcancels rfl
  · cases w <;> rfl
  · cases w <;> simp [Working.toState]
  · cases w <;> simp_all [Working.toState]
  · cases w <;> nofun
  · cases w <;> nofun
  · exact ⟨fun _ => by cases w <;> nofun, fun _ => hdigest.2 honline⟩
  · exact absurd (hquiet.symm.trans hx) nofun
  · refine ⟨fun h => ?_, hfall, fun h => ?_⟩
    · exact absurd (hlow.symm.trans h) Bool.noConfusion
    · simp [hnoEnd] at h
  · cases w <;> cases h

theorem Sound.endQuiesce {s : State} (hs : Sound s) (hstation : s.ctrl.station = .quiesce) : Sound s.endQuiesce := by
  have hover : Sound { s with stop := { s.stop with quiesceEnd := none } } := by
    obtain ⟨hcontroller, hconfig, -, -, hsending, ⟨hlow, hfall, -⟩, hquiesce⟩ := hs.station
    obtain ⟨-, -, -, -, -, -, hcancels⟩ := hs.request
    exact hs.of_station (stationInv_of_receiving (by rw [hstation]; rfl) hcontroller hconfig hsending
      ⟨hlow, hfall, nofun⟩ hquiesce) rfl rfl rfl rfl rfl rfl rfl hcancels rfl
  unfold State.endQuiesce
  dsimp only
  split
  · exact hover
  · next hlow =>
    unfold State.resumeWork
    split
    · exact hover
    · next w hw => exact (hover.resumed hstation (Bool.eq_false_iff.2 hlow) rfl w hw).placeJoin

/-! ### LISTENING and ACTIVE (R82, R84, R91) -/

/-- The entry to ACTIVE from LISTENING, with no frame of its own on LINK (R84). -/
theorem Sound.enterActive {s : State} (hs : Sound s) (hstation : s.ctrl.station = .listening)
    (hquiet : s.bus.transmit = .quiet) : Sound s.enterActive := by
  obtain ⟨⟨hremembered, -, -, -⟩, ⟨hdigest, hvalid⟩, -, -, -, ⟨hlow, hfall, hend⟩, -⟩ := hs.station
  obtain ⟨-, -, -, -, -, -, hcancels⟩ := hs.request
  have honline : s.ctrl.station ≠ .offline := by rw [hstation]; nofun
  have hnone : s.ctrl.remembered = none := by
    cases h : s.ctrl.remembered with
    | none => rfl
    | some w =>
      have := hremembered.1 (by simp [h])
      rw [hstation] at this
      cases this
  refine hs.of_station (stationInv_of_receiving rfl ⟨?_, ?_, nofun, fun _ => nofun⟩
    ⟨⟨fun _ => nofun, fun _ => hdigest.2 honline⟩, fun _ => hvalid honline⟩ (fun x hx => ?_)
    ⟨fun h => ?_, hfall, fun h => ?_⟩ nofun) rfl rfl rfl rfl rfl rfl rfl hcancels rfl
  · simp [hnone]
  · simp [hnone]
  · rw [State.enterActive_bus, hquiet] at hx; cases hx
  · exact absurd (hstation.symm.trans (hlow h)) nofun
  · exact absurd (hstation.symm.trans (hend h)) nofun

theorem Sound.takeWaitingMove {s : State} (hs : Sound s) (hquiet : s.bus.transmit = .quiet) :
    Sound s.takeWaitingMove := by
  unfold State.takeWaitingMove
  split
  · next h =>
    simp only [Bool.and_eq_true, beq_iff_eq] at h
    exact hs.enterActive h.2 hquiet
  · exact hs

/-- The entry to LISTENING before observation begins, from a station that has withdrawn (R82, R91). -/
theorem Sound.startListening {s : State} (hs : Sound s) (hoff : s.ctrl.station = .offline ∨ s.ctrl.station = .silent)
    (digest : Byte) (hvalid : s.port.image.any validImage = true) (tick : Tick) :
    Sound { s.enter .listening with
      ctrl := { (s.enter .listening).ctrl with joinEnd := some tick, joinOwed := true }
      bus := { s.bus with receive := .unsynchronised 0 }
      port := { s.port with digest := some digest } } := by
  obtain ⟨⟨hremembered, -, -, -⟩, -, hwithdrawn, -⟩ := hs.station
  obtain ⟨-, -, -, -, -, -, hcancels⟩ := hs.request
  have hnot : s.ctrl.station.receiving = false := by obtain h | h := hoff <;> rw [h] <;> rfl
  obtain ⟨-, hquiet, -, hstop, htable, -⟩ := hwithdrawn hnot
  have hlow : s.stop.lineLow = false := by rw [hstop]; rfl
  have hfall : s.stop.fallTick = none := by rw [hstop]; rfl
  have hend : s.stop.quiesceEnd = none := by rw [hstop]; rfl
  have hnone : s.ctrl.remembered = none := by
    cases h : s.ctrl.remembered with
    | none => rfl
    | some w =>
      have := hremembered.1 (by simp [h])
      rw [this] at hnot
      cases hnot
  refine hs.of_station (stationInv_of_receiving rfl ⟨?_, ?_, nofun, fun _ => nofun⟩
    ⟨⟨fun _ => nofun, fun _ => rfl⟩, fun _ => hvalid⟩ (fun x hx => ?_) ?_ nofun) rfl rfl rfl rfl rfl rfl rfl hcancels
      rfl
  · simp [hnone]
  · simp
  · exact absurd (show s.bus.transmit.frame = some x from hx) (by rw [hquiet]; nofun)
  · simp [monitorInv, hlow, hfall, hend]

theorem Sound.beginObserving {s : State} (hs : Sound s) (hon : s.ctrl.station.receiving = true) :
    Sound s.beginObserving := by
  unfold State.beginObserving
  split
  · exact hs.takeFall hon
  · exact hs

end Sys2Proof.Machine
end

section
/-!
PROOFS. The insertion of an admitted claim keeps the invariants of the table and of the channels (R15, R20 to R22).
-/

namespace Sys2Proof.Machine

/-! ### Stretches and distances -/

theorem distance_comm (t u : Tick) : distance t u = distance u t := by
  have hbound := tickDiff_bounds t u
  by_cases hmin : tickDiff t u = -(2 ^ 31)
  · have hbound' := tickDiff_bounds u t
    have hmin' : tickDiff u t = -(2 ^ 31) := by
      by_contra hne
      have := tickDiff_swap u t (by omega)
      omega
    simp only [distance, hmin, hmin']
  · have := tickDiff_swap t u (by omega)
    unfold distance
    omega

/-- Two pulses are apart whichever is named first. -/
theorem apart_symm {t u : Tick} {d e : Nat} (hd : d < 2 ^ 31) (h : apart t d u e) :
    apart u e t d := by
  unfold apart at *
  have hbound := tickDiff_bounds u t
  by_cases hmin : tickDiff u t = -(2 ^ 31)
  · have hbound' := tickDiff_bounds t u
    by_cases hmin' : tickDiff t u = -(2 ^ 31)
    · omega
    · have := tickDiff_swap t u (by omega)
      omega
  · have := tickDiff_swap u t (by omega)
    omega

/-- A record of the stretch from `u` on that also holds `t` lies in the stretch that begins as far before `t`
(R12, R21). -/
theorem inStretch_of_startsWithin {u t : Tick} {len : Nat} {y : ClaimRecord} (hlen : len ≤ 2 ^ 20)
    (ht : (t - u).toNat < len) (hy : startsWithin u len y = true) : inStretch t (t - u).toNat len y = true := by
  have hsmall : ∀ v : Tick, (v - u).toNat < len → tickDiff v u = (v - u).toNat := fun v hv => by
    unfold tickDiff
    rw [BitVec.toInt_eq_toNat_of_lt (by omega)]
  simp only [startsWithin, decide_eq_true_eq] at hy
  have hyu := hsmall y.start hy
  have htu := hsmall t ht
  have hut := tickDiff_swap t u (by omega)
  have hyt := tickDiff_chain y.start u t (by omega) (by omega)
  rw [inStretch_iff]
  omega

/-! ### The order of the table (R20) -/

/-- With keys in ascending order, insertion before the first larger key keeps them ascending. -/
theorem insertRecord_ascending (key : ClaimRecord → Int) (x : ClaimRecord) (l : List ClaimRecord)
    (hlater : ∀ y ∈ l, later y.start x.start = true ↔ key x < key y) (hne : ∀ y ∈ l, key y ≠ key x)
    (hl : l.Pairwise (fun y z => key y < key z)) : (insertRecord x l).Pairwise (fun y z => key y < key z) := by
  induction l with
  | nil => exact List.pairwise_singleton _ _
  | cons y rest ih =>
    obtain ⟨hy, hrest⟩ := List.pairwise_cons.1 hl
    unfold insertRecord
    split
    · next h =>
      have hxy := (hlater y (List.mem_cons_self ..)).1 h
      refine List.pairwise_cons.2 ⟨fun z hz => ?_, hl⟩
      obtain rfl | hz := List.mem_cons.1 hz
      · exact hxy
      · exact hxy.trans (hy z hz)
    · next h =>
      have hyx : key y < key x := by
        have := hne y (List.mem_cons_self ..)
        have hnot : ¬key x < key y := fun hlt => h ((hlater y (List.mem_cons_self ..)).2 hlt)
        omega
      refine List.pairwise_cons.2 ⟨fun z hz => ?_, ih (fun z hz => hlater z (List.mem_cons_of_mem _ hz))
        (fun z hz => hne z (List.mem_cons_of_mem _ hz)) hrest⟩
      obtain rfl | hz := (mem_insertRecord ..).1 hz
      · exact hyx
      · exact hy z hz

/-! ### Pulses under way (R154) -/

/-- The start tick of a FIRING request is reached and its pulse is not past its end (R140, R154). -/
def pulsesInv (s : State) : Prop :=
  ∀ r ∈ s.req.list, r.state = .firing → ∀ t, r.start = some t →
    0 ≤ tickDiff s.now t ∧ tickDiff s.now t ≤ (s.classOf r.cls).duration

theorem startInv.pulses {s : State} (h : startInv s) : pulsesInv s := fun r hr hf t ht => by
  obtain ⟨-, -, hfiring⟩ := h r hr t ht
  exact hfiring hf

theorem Keeps.pulses {s t : State} (h : Keeps s t) (hs : pulsesInv s) : pulsesInv t := fun r hr hf u hu => by
  rw [h.now, State.classOf_congr h.image]
  exact hs r (h.firing r hr hf) hf u hu

/-- A channel that is free stays free while records go and the outputs stand. -/
theorem Keeps.channelFree {s t : State} (h : Keeps s t) (hout : t.out = s.out) {cls : ClassNo} {u : Tick}
    (hs : channelFree s cls u) : channelFree t cls u := by
  obtain ⟨hrecords, hentry⟩ := hs
  refine ⟨fun y hy hown hc => ?_, fun e he => ?_⟩
  · obtain ⟨x, hx, hxy, -⟩ := h.mem_table hy
    rw [State.ownId_congr h.image, hxy.owner] at hown
    rw [State.channelOf_congr h.image, State.channelOf_congr h.image, hxy.cls] at hc
    rw [State.classOf_congr h.image, State.classOf_congr h.image, hxy.cls, hxy.start]
    exact hrecords x hx hown hc
  · rw [h.now]
    refine hentry e ?_
    rw [← he]
    simp only [State.channel, hout, State.channelOf_congr h.image]

/-! ### Admission -/

/-- The table takes a claim exactly where no record has its name and the check with margin G passes (R22, R23). -/
theorem refusal_eq_none (s : State) (f : Frame) (c : ClaimFields) :
    refusal s f c = none ↔ (∀ x ∈ s.table, ¬(x.owner = f.id ∧ x.seq = f.seq))
      ∧ admissionCheck s.params s.params.G s.table
          ⟨plus s.now c.offset.toNat, c.weight.toNat, c.group, c.offset.toNat⟩ = .pass := by
  have hnames : s.table.any (isRecord f.id f.seq) = false ↔ ∀ x ∈ s.table, ¬(x.owner = f.id ∧ x.seq = f.seq) := by
    simp [isRecord]
  unfold refusal
  split
  · next h =>
    rw [← hnames, h]
    simp
  · next h =>
    rw [← hnames, Bool.eq_false_iff.2 h]
    cases admissionCheck s.params s.params.G s.table
      ⟨plus s.now c.offset.toNat, c.weight.toNat, c.group, c.offset.toNat⟩ <;> simp

/-- A claim that is admitted, and, if it is the station's own, finds its channel free (R15, R22). -/
structure Admitted (s : State) (f : Frame) (c : ClaimFields) : Prop where
  names : ∀ x ∈ s.table, ¬(x.owner = f.id ∧ x.seq = f.seq)
  check : admissionCheck s.params s.params.G s.table
    ⟨plus s.now c.offset.toNat, c.weight.toNat, c.group, c.offset.toNat⟩ = .pass
  channel : f.id = s.ownId → channelFree s c.cls (plus s.now c.offset.toNat)

theorem tickDiff_plus_offset (now : Tick) (o : Offset) : tickDiff (plus now o.toNat) now = o.toNat :=
  tickDiff_plus _ _ (by have := o.isLt; omega)

section Insertion

variable {s : State} {f : Frame} {c : ClaimFields} (tag : Option Byte) (h : Admitted s f c)
include h

theorem Admitted.tests : s.params.minLead ≤ c.offset.toNat ∧ c.offset.toNat ≤ s.params.dMax
    ∧ s.table.length < 48
    ∧ (∀ x ∈ s.table, s.params.sShort + s.params.G ≤ distance (plus s.now c.offset.toNat) x.start
        ∧ (x.group = c.group → s.params.sLong + s.params.G ≤ distance (plus s.now c.offset.toNat) x.start))
    ∧ budgetOk s.params (s.params.W + s.params.G) s.table (plus s.now c.offset.toNat) c.weight.toNat = true := by
  obtain ⟨hrange, hroom, hspacing, hbudget⟩ := (admissionCheck_pass_iff ..).1 h.check
  obtain ⟨hlead, hmax, -, -⟩ := (inRange_iff ..).1 hrange
  exact ⟨hlead, hmax, (hasRoom_iff _).1 hroom, (spacingOk_iff ..).1 hspacing, hbudget⟩

theorem Admitted.tableInv (hs : tableInv s) (hW : 1 ≤ s.params.W) :
    tableInv { s with table := insertRecord (claimRecord f c s.now tag) s.table } := by
  obtain ⟨hlength, hnames, hspaced, hbudget⟩ := hs
  obtain ⟨-, -, hroom, hspacing, hfits⟩ := h.tests
  have hspan := s.params_bounds
  refine ⟨?_, ?_, ?_, fun u => ?_⟩
  · rw [insertRecord_length]
    omega
  · refine insertRecord_pairwise _ (fun a b hne hba => hne ⟨hba.1.symm, hba.2.symm⟩) _ _ hnames fun y hy hxy => ?_
    exact h.names y hy ⟨hxy.1.symm, hxy.2.symm⟩
  · refine insertRecord_pairwise _ (fun a b hab => ?_) _ _ hspaced fun y hy => ?_
    · exact ⟨distance_comm a.start b.start ▸ hab.1, fun hg => distance_comm a.start b.start ▸ hab.2 hg.symm⟩
    · exact ⟨(hspacing y hy).1, fun hg => (hspacing y hy).2 hg.symm⟩
  · set len := s.params.W + s.params.G with hlen
    have hperm := ((insertRecord_perm (claimRecord f c s.now tag) s.table).filter (startsWithin u len)).map
      (fun x => x.weight.toNat)
    refine le_trans (le_of_eq hperm.sum_eq) ?_
    rw [List.filter_cons]
    split
    · next hwithin =>
      have hstart : (plus s.now c.offset.toNat - u).toNat < len := of_decide_eq_true hwithin
      have hall := (budgetOk_iff _ _ _ _ _ (by omega) (by omega)).1 hfits _ hstart
      refine le_trans (Nat.add_le_add_left ?_ _) hall
      refine List.Sublist.sum_le_sum (List.Sublist.map _ ?_) fun _ _ => Nat.zero_le _
      exact List.monotone_filter_right _ fun y hy => inStretch_of_startsWithin (by omega) hstart hy
    · exact hbudget u

theorem Admitted.orderInv (hs : orderInv s) (hspan : 1 ≤ s.params.sShort) :
    orderInv { s with table := insertRecord (claimRecord f c s.now tag) s.table } := by
  obtain ⟨hsorted, hbounds⟩ := hs
  obtain ⟨hlead, hmax, -, hspacing, -⟩ := h.tests
  have hparams := s.params_bounds
  have hstart := tickDiff_plus_offset s.now c.offset
  have hretire : s.params.retireSpan = s.params.W + 2 * s.params.G := rfl
  have hnow : ∀ y ∈ s.table, tickDiff s.now y.start = -tickDiff y.start s.now := fun y hy => by
    have := hbounds y hy
    exact tickDiff_swap _ _ (by omega)
  have hkey : ∀ y ∈ s.table, ∀ t, -(2 ^ 20 : Int) ≤ tickDiff t s.now → tickDiff t s.now ≤ 2 ^ 20 →
      tickDiff t y.start = tickDiff t s.now - tickDiff y.start s.now := fun y hy t hlow hhigh => by
    have hb := hbounds y hy
    have hn := hnow y hy
    rw [tickDiff_chain t s.now y.start (by omega) (by omega), hn]
    rfl
  have hnew : ∀ y ∈ s.table, tickDiff y.start (plus s.now c.offset.toNat)
      = tickDiff y.start s.now - c.offset.toNat := fun y hy => by
    have hb := hbounds y hy
    have hback := hkey y hy (plus s.now c.offset.toNat) (by omega) (by omega)
    have hswap := tickDiff_swap (plus s.now c.offset.toNat) y.start (by omega)
    omega
  have hascending : s.table.Pairwise (fun y z => tickDiff y.start s.now < tickDiff z.start s.now) := by
    refine hsorted.imp_of_mem fun {y z} hy hz hlater => ?_
    have hb := hbounds z hz
    have := hkey y hy z.start (by omega) (by omega)
    rw [later_iff] at hlater
    omega
  have hinserted := insertRecord_ascending (fun y => tickDiff y.start s.now) (claimRecord f c s.now tag) s.table
    (fun y hy => by
      rw [later_iff]
      show 0 < tickDiff y.start (plus s.now c.offset.toNat) ↔ tickDiff (plus s.now c.offset.toNat) s.now < _
      rw [hnew y hy, hstart]
      omega)
    (fun y hy => by
      show tickDiff y.start s.now ≠ tickDiff (plus s.now c.offset.toNat) s.now
      have hfar := (hspacing y hy).1
      have hb := hbounds y hy
      have := hkey y hy (plus s.now c.offset.toNat) (by omega) (by omega)
      unfold distance at hfar
      omega) hascending
  have hmem : ∀ y ∈ insertRecord (claimRecord f c s.now tag) s.table,
      -(s.params.retireSpan : Int) ≤ tickDiff y.start s.now ∧ tickDiff y.start s.now ≤ s.params.dMax := fun y hy => by
    obtain rfl | hy := (mem_insertRecord ..).1 hy
    · show -(s.params.retireSpan : Int) ≤ tickDiff (plus s.now c.offset.toNat) s.now
        ∧ tickDiff (plus s.now c.offset.toNat) s.now ≤ s.params.dMax
      rw [hstart]
      omega
    · exact hbounds y hy
  refine ⟨hinserted.imp_of_mem fun {y z} hy hz hlt => ?_, hmem⟩
  have hby := hmem y hy
  have hbz := hmem z hz
  have hswap := tickDiff_swap y.start s.now (by omega)
  have hchain := tickDiff_chain z.start s.now y.start (by omega) (by omega)
  rw [later_iff]
  omega

theorem Admitted.recordInv (hs : recordInv s) :
    recordInv { s with table := insertRecord (claimRecord f c s.now tag) s.table } := by
  intro y hy
  obtain rfl | hy := (mem_insertRecord ..).1 hy
  · obtain ⟨hlead, hmax, -⟩ := h.tests
    have hstart := tickDiff_plus_offset s.now c.offset
    show ((s.params.minLead : Int) ≤ tickDiff (plus s.now c.offset.toNat) s.now
      ∧ tickDiff (plus s.now c.offset.toNat) s.now ≤ s.params.dMax) ∧ 0 ≤ tickDiff s.now s.now
      ∧ (_ → tickDiff s.now s.now ≤ s.params.pendingSpan)
    rw [hstart, tickDiff_self]
    omega
  · exact hs y hy

/-- The pulse that holds a channel ends before the new start, so the FIRING request's stretch is apart (R15). -/
theorem Admitted.apart_firing (hown : f.id = s.ownId) (hpulses : pulsesInv s) (houtput : outputInv s) {r : Request}
    (hr : r ∈ s.req.list) (hf : r.state = .firing) {u : Tick} (hu : r.start = some u)
    (hchannel : s.channelOf c.cls = s.channelOf r.cls) :
    apart u (s.classOf r.cls).duration (plus s.now c.offset.toNat) (s.classOf c.cls).duration := by
  obtain ⟨-, hfree⟩ := h.channel hown
  obtain ⟨u', hu', hentry⟩ := houtput.1 r hr hf
  obtain rfl : u = u' := Option.some.inj (hu.symm.trans hu')
  have hend := hfree _ (hchannel ▸ hentry)
  obtain ⟨hbegun, hover⟩ := hpulses r hr hf u hu
  have hduration := s.duration_lt r.cls
  have hstart := tickDiff_plus_offset s.now c.offset
  have hoffset := c.offset.isLt
  have hlast : tickDiff (entryOf s r u).endTick u = (s.classOf r.cls).duration := tickDiff_plus _ _ (by omega)
  have hback := tickDiff_swap s.now u (by omega)
  have hleft := tickDiff_chain (entryOf s r u).endTick u s.now (by omega) (by omega)
  have hfrom := tickDiff_chain (plus s.now c.offset.toNat) s.now u (by omega) (by omega)
  left
  omega

theorem Admitted.channelInv (hs : channelInv s) (hpulses : pulsesInv s) (houtput : outputInv s) :
    channelInv { s with table := insertRecord (claimRecord f c s.now tag) s.table } := by
  obtain ⟨hrecords, hfiring⟩ := hs
  have hlt : ∀ k, (s.classOf k).duration < 2 ^ 31 := fun k => (s.duration_lt k).trans (by omega)
  refine ⟨?_, fun r hr hf u hu y hy howner htag hchannel => ?_⟩
  · refine insertRecord_pairwise _ (fun x y hxy hy hx hc => ?_) _ _ hrecords fun y hy hx hyown hc => ?_
    · exact apart_symm (hlt _) (hxy hx hy hc.symm)
    · obtain ⟨hfree, -⟩ := h.channel hx
      exact hfree y hy hyown hc.symm
  · obtain rfl | hy := (mem_insertRecord ..).1 hy
    · exact h.apart_firing howner hpulses houtput hr hf hu hchannel
    · exact hfiring r hr hf u hu y hy howner htag hchannel

/-- The insertion of an admitted claim keeps the invariants (R20 to R22). -/
theorem Sound.insertClaim (hs : Sound s) (hpulses : pulsesInv s)
    (hstation : s.ctrl.station = .listening ∨ s.ctrl.station = .active) :
    Sound { s with table := insertRecord (claimRecord f c s.now tag) s.table } := by
  have honline : s.ctrl.station ≠ .offline := by obtain hst | hst := hstation <;> rw [hst] <;> nofun
  obtain ⟨-, hvalid⟩ := hs.config.outside honline
  obtain ⟨img, himg, hok⟩ := (Option.any_eq_true _ _).1 hvalid
  obtain ⟨hshort, -, hW⟩ := validImage_spans hok
  have hparams : s.params = imageParams img := by simp only [State.params, State.image, himg, Option.getD_some]
  obtain ⟨hcontroller, hconfig, -, -, hsending, hmonitor, -⟩ := hs.station
  exact {
    running := hs.running
    station := by
      refine stationInv_of_receiving ?_ hcontroller hconfig hsending hmonitor fun hq => ?_
      · obtain hst | hst := hstation <;> simp [hst, StationState.receiving]
      · obtain hst | hst := hstation <;> exact absurd (hst.symm.trans hq) nofun
    request := hs.request
    output := hs.output
    channel := h.channelInv tag hs.channel hpulses hs.output
    table := h.tableInv tag hs.table (by rw [hparams]; omega)
    order := h.orderInv tag hs.order (by rw [hparams]; exact hshort)
    record := h.recordInv tag hs.record
    drive := hs.drive }

end Insertion

end Sys2Proof.Machine
end

section
/-!
PROOFS. The events on LINK keep the invariants (03_frames_on_the_shared_bus.md, R22 to R27, R63 to R73).
-/

namespace Sys2Proof.Machine

/-! ### The Bus Interface -/

theorem Sound.withBus {s : State} (hs : Sound s) (b : BusInterface) (hon : s.ctrl.station.receiving = true)
    (hsending : ∀ x, b.transmit.frame = some x → (∃ cells, b.receive = .inFrame cells)
      ∧ s.ctrl.station = (if x.slot = .join then .listening else .active)) : Sound { s with bus := b } := by
  obtain ⟨hcontroller, hconfig, -, -, -, hmonitor, hquiesce⟩ := hs.station
  obtain ⟨-, -, -, -, -, -, hcancels⟩ := hs.request
  exact hs.of_station (stationInv_of_receiving hon hcontroller hconfig hsending hmonitor hquiesce)
    rfl rfl rfl rfl rfl rfl rfl hcancels rfl

/-- LINK released. -/
theorem Sound.withQuietBus {s : State} (hs : Sound s) (b : BusInterface) (hon : s.ctrl.station.receiving = true)
    (hquiet : b.transmit.frame = none) : Sound { s with bus := b } :=
  hs.withBus b hon fun _ hx => absurd (hquiet.symm.trans hx) nofun

/-- A station that is not IN FRAME sends nothing (R44). -/
theorem Sound.quiet_of_receive {s : State} (hs : Sound s) (h : ∀ cells, s.bus.receive ≠ .inFrame cells) :
    s.bus.transmit.frame = none := by
  obtain ⟨-, -, -, -, hsending, -⟩ := hs.station
  cases hframe : s.bus.transmit.frame with
  | none => rfl
  | some x =>
    obtain ⟨⟨cells, hcells⟩, -⟩ := hsending x hframe
    exact absurd hcells (h cells)

/-- A station that sends is LISTENING or ACTIVE (R47). -/
theorem Sound.working_of_frame {s : State} (hs : Sound s) {x : Sending} (hx : s.bus.transmit.frame = some x) :
    s.ctrl.station = .listening ∨ s.ctrl.station = .active := by
  obtain ⟨-, -, -, -, hsending, -⟩ := hs.station
  obtain ⟨-, hstation⟩ := hsending x hx
  split at hstation
  · exact .inl hstation
  · exact .inr hstation

theorem StationState.receiving_of_working {st : StationState} (h : st = .listening ∨ st = .active) :
    st.receiving = true := by
  obtain h | h := h <;> rw [h] <;> rfl

theorem StationState.ne_offline_of_receiving {st : StationState} (h : st.receiving = true) : st ≠ .offline :=
  fun h' => by rw [h'] at h; cases h

/-- A receive side that is not at its reset value belongs to a station that receives (R45). -/
theorem Sound.receiving_of_receive {s : State} (hs : Sound s) (h : s.bus.receive ≠ .unsynchronised 0) :
    s.ctrl.station.receiving = true := by
  obtain ⟨-, -, hwithdrawn, -⟩ := hs.station
  cases hst : s.ctrl.station.receiving with
  | true => rfl
  | false =>
    obtain ⟨hreceive, -⟩ := hwithdrawn hst
    exact absurd hreceive h

theorem Sound.gainSync {s : State} (hs : Sound s) (hdue : syncDue s = true) : Sound s.gainSync := by
  unfold syncDue at hdue
  simp only [Bool.and_eq_true] at hdue
  obtain ⟨hon, hrun⟩ := hdue
  have hquiet : s.bus.transmit.frame = none := hs.quiet_of_receive fun cells h => by simp [h] at hrun
  exact (hs.withQuietBus { s.bus with receive := .outOfFrame 24, defer := false } hon hquiet).placeJoin

theorem Sound.clearDefer {s : State} (hs : Sound s) (hdue : idle24Due s = true) :
    Sound { s with bus := { s.bus with defer := false } } := by
  have hidle : s.bus.receive.longIdle = true := by
    unfold idle24Due at hdue
    exact (Bool.and_eq_true_iff.1 hdue).2
  have hout : ∀ cells, s.bus.receive ≠ .inFrame cells := fun cells h => by simp [h, Receive.longIdle] at hidle
  exact hs.withQuietBus _ (hs.receiving_of_receive fun h => by simp [h, Receive.longIdle] at hidle)
    (hs.quiet_of_receive hout)

theorem Sound.startBit {s : State} (hs : Sound s) (hdue : startBitDue s = true) :
    Sound { s with bus := { s.bus with receive := .inFrame [false] } } := by
  have hout : ∀ cells, s.bus.receive ≠ .inFrame cells := fun cells h => by simp [h, startBitDue] at hdue
  exact hs.withQuietBus _ (hs.receiving_of_receive fun h => by simp [h, startBitDue] at hdue)
    (hs.quiet_of_receive hout)

theorem Transmit.frame_won (x : Transmit) : x.won.frame = x.frame := by cases x <;> rfl

theorem Sound.winArbitration {s : State} (hs : Sound s) (hdue : wonDue s = true) :
    Sound { s with bus := { s.bus with transmit := s.bus.transmit.won } } := by
  obtain ⟨-, -, -, -, hsending, -⟩ := hs.station
  cases hframe : s.bus.transmit.frame with
  | none =>
    unfold wonDue at hdue
    split at hdue
    · next h _ => rw [h] at hframe; cases hframe
    · cases hdue
  | some x =>
    refine hs.withBus _ (StationState.receiving_of_working (hs.working_of_frame hframe)) fun y hy => ?_
    exact hsending y (s.bus.transmit.frame_won ▸ hy)

/-! ### Beginning a frame (R47, R49, R133) -/

/-- The claim in the CLAIM slot is that of a SENDING request (R132). -/
theorem slotInv.claim_sending {s : State} (hslot : slotInv s) (htags : (s.req.list.map Request.tag).Nodup)
    {tag : Byte} (hclaim : s.req.claimSlot = some tag) {r : Request} (hr : r ∈ s.req.list) (htag : r.tag = tag) :
    r.state = .sending := by
  obtain ⟨-, hclaims, -⟩ := hslot
  obtain ⟨q, hq, hqtag, hsending⟩ := hclaims tag hclaim
  rw [eq_of_tag_eq _ htags r q hr hq (htag.trans hqtag.symm)]
  exact hsending

/-- A frame is offered OUT OF FRAME, a JOIN in LISTENING, the claim of the CLAIM slot and CANCELs in ACTIVE (R47). -/
theorem offered_eq_some {s : State} {slot : SlotRef} (h : offered s = some slot) :
    (∃ idle, s.bus.receive = .outOfFrame idle)
    ∧ s.ctrl.station = (if slot = .join then .listening else .active)
    ∧ ∀ tag, slot = .claim tag → s.req.claimSlot = some tag := by
  unfold offered at h
  split at h
  · next idle hreceive =>
    refine ⟨⟨idle, hreceive⟩, ?_⟩
    split at h
    · unfold offer at h
      split at h
      · cases h
      · split at h
        · next hst _ => cases h; exact ⟨hst, nofun⟩
        · next g hst _ hclaim =>
          split at h
          · cases h
          · cases h; exact ⟨hst, fun tag htag => by cases htag; exact hclaim⟩
        · next hst =>
          split at h
          · cases h; exact ⟨hst, nofun⟩
          · cases h
        · cases h
    · cases h
  all_goals cases h

theorem Sound.beginFrame {s : State} (hs : Sound s) (slot : SlotRef) (p : Payload)
    (hstation : s.ctrl.station = (if slot = .join then .listening else .active)) : Sound (s.beginFrame slot p) := by
  refine hs.withBus _ (StationState.receiving_of_working ?_) fun x hx => ?_
  · split at hstation
    · exact .inl hstation
    · exact .inr hstation
  · cases hx
    exact ⟨⟨[], rfl⟩, hstation⟩

/-- Emptying the CLAIM slot. -/
theorem Sound.clearClaimSlot {s : State} (hs : Sound s) : Sound { s with req := { s.req with claimSlot := none } } := by
  obtain ⟨-, -, -, -, -, -, hcancels⟩ := hs.request
  refine hs.of_station (stationInv_of_requests hs.station rfl ⟨rfl, rfl, rfl⟩ rfl ⟨rfl, rfl⟩
    (fun y hy => ⟨y, hy, id⟩) (fun _ ⟨_, h2, h3⟩ => ⟨rfl, h2, h3⟩) (fun q hq => ⟨q, hq, id⟩) id)
    rfl rfl rfl rfl rfl rfl rfl hcancels rfl

theorem Sound.attemptClaim {s : State} (hs : Sound s) (hstation : s.ctrl.station = .active) (tag : Byte)
    (hsending : ∀ r ∈ s.req.list, r.tag = tag → r.state = .sending) : Sound (s.attemptClaim tag) := by
  have hfew : ∀ r ∈ s.req.list, r.tag = tag → r.state ≠ .firing ∧ r.attempts ≤ 2 := fun r hr htag => by
    have hst := hsending r hr htag
    exact ⟨by rw [hst]; nofun, (requestInv_becomes hs.request hr).waiting (.inr hst)⟩
  unfold State.attemptClaim
  split
  · exact hs.clearClaimSlot
  · split
    · refine Sound.beginFrame (hs.updateRequest tag _ fun r hr htag => .inr ?_) _ _ hstation
      obtain ⟨hnot, htwo⟩ := hfew r hr htag
      exact ⟨hnot, hnot, rfl, id, htwo.trans (by omega), fun _ => htwo⟩
    · exact hs.leaveRequest tag _ _ fun r hr htag => (hfew r hr htag).1
    · refine Sound.clearClaimSlot (hs.updateRequest tag _ fun r hr htag => .inr ?_)
      obtain ⟨hnot, htwo⟩ := hfew r hr htag
      exact ⟨hnot, nofun, rfl, nofun, htwo.trans (by omega), fun _ => htwo⟩

theorem Sound.attempt {s : State} (hs : Sound s) (hslot : slotInv s) : Sound s.attempt := by
  obtain ⟨-, -, htags, -⟩ := hs.request
  unfold State.attempt
  dsimp only
  cases hoffered : offered s with
  | none => exact hs
  | some slot =>
    obtain ⟨⟨idle, hreceive⟩, hstation, hclaim⟩ := offered_eq_some hoffered
    have hout : ∀ cells, s.bus.receive ≠ .inFrame cells := fun cells h => by rw [hreceive] at h; cases h
    have hu : Sound s.clearDeferAt24.useBoundary :=
      hs.withQuietBus s.clearDeferAt24.useBoundary.bus (hs.receiving_of_receive fun h => by rw [hreceive] at h; cases h)
        (hs.quiet_of_receive hout)
    cases slot with
    | claim tag =>
      exact hu.attemptClaim hstation tag fun r hr htag => hslot.claim_sending htags (hclaim tag rfl) hr htag
    | cancel tag =>
      dsimp only
      unfold State.attemptCancel
      split
      · exact hu.beginFrame _ _ hstation
      · exact hu
    | join => exact hu.beginFrame _ _ hstation

/-! ### Arbitration and readback (R50, R52) -/

theorem Sound.reportAttemptOver {s : State} (hs : Sound s) (slot : SlotRef) : Sound (s.reportAttemptOver slot) := by
  refine hs.settle [] (fun r _ => ?_) (fun r _ hf => ?_)
  · unfold Request.onAttemptOver
    split
    · trivial
    · split
      · trivial
      · exact .inl rfl
  · simp [Request.onAttemptOver, hf]

theorem Sound.loseArbitration {s : State} (hs : Sound s) : Sound s.loseArbitration := by
  unfold State.loseArbitration
  split
  · exact hs
  · next x hx =>
    have hon := StationState.receiving_of_working (hs.working_of_frame hx)
    exact ((hs.withQuietBus { s.bus with transmit := .quiet } hon rfl).reportAttemptOver x.slot).takeWaitingMove rfl

theorem Sound.failReadback {s : State} (hs : Sound s) : Sound s.failReadback := by
  unfold State.failReadback
  split
  · exact hs
  · next x hx =>
    have hon := StationState.receiving_of_working (hs.working_of_frame hx)
    have hreleased := hs.withQuietBus { s.bus with transmit := .quiet, receive := .unsynchronised 0 } hon rfl
    have hdetected := hreleased.takeDetection (StationState.ne_offline_of_receiving hon) (readbackDetection s x.frame)
    exact (hdetected.reportAttemptOver x.slot).takeWaitingMove (State.takeDetection_quiet rfl _)

/-! ### Stages 7 and 8 (R22 to R27, R67 to R73) -/

theorem Sound.reportInserted {s : State} (hs : Sound s) (tag : Byte) (start : Tick) :
    Sound (s.reportInserted tag start) := by
  refine hs.updateRequest tag _ fun r hr _ => ?_
  have hbounds := requestInv_becomes hs.request hr
  split
  · next hstate =>
    have hnot : r.state ≠ .firing := by obtain h | h := hstate <;> rw [h] <;> nofun
    exact .inr ⟨hnot, hnot, rfl, id, hbounds.attempts, hbounds.waiting⟩
  · exact .inl rfl

theorem Sound.reportRefused {s : State} (hs : Sound s) (tag : Byte) : Sound (s.reportRefused tag) := by
  refine hs.settle [] (fun r _ => ?_) (fun r _ hf => ?_)
  · split
    · split
      · next h => exact Request.voided_fair (by rw [h]; nofun)
      · trivial
      all_goals exact .inl rfl
    · exact .inl rfl
  · simp [hf]

/-- What ends a request only while it is CANCELLING. -/
theorem Sound.settleCancelling {s : State} (hs : Sound s) (tag : Byte) :
    Sound (s.settle [] (fun r => if r.tag = tag ∧ r.state = .cancelling then .leave .cancelled .none else .stay r)) :=
      by
  refine hs.settle [] (fun r _ => ?_) (fun r _ hf => ?_)
  · split
    · trivial
    · exact .inl rfl
  · simp [hf]

/-- Where the claim of a frame is the station's own, its channel is free (R15). -/
def State.claimFree (s : State) (f : Frame) : Prop :=
  f.id = s.ownId → ∀ cls group weight offset, f.payload = .claim cls group weight offset →
    channelFree s cls (plus s.now offset.toNat)

/-- What the table makes of a CLAIM (R22, R23, R25): nothing outside the states that receive, an insertion with its
report, or a detection, which a report of the refusal may precede. -/
theorem State.takeClaim_cases (s : State) (f : Frame) (c : ClaimFields) (tag : Option Byte) :
    (s.takeClaim f c tag = s ∧ s.ctrl.station.receiving = false)
    ∨ (∃ d, s.takeClaim f c tag = s.takeDetection d ∧ s.ctrl.station.receiving = true)
    ∨ (∃ d g, s.takeClaim f c tag = (s.reportRefused g).takeDetection d ∧ s.ctrl.station.receiving = true)
    ∨ (s.ctrl.station = .listening ∨ s.ctrl.station = .active) ∧ refusal s f c = none
      ∧ (s.takeClaim f c tag = { s with table := insertRecord (claimRecord f c s.now tag) s.table }
        ∨ ∃ g, s.takeClaim f c tag = State.reportInserted
          { s with table := insertRecord (claimRecord f c s.now tag) s.table } g (plus s.now c.offset.toNat)) := by
  unfold State.takeClaim
  cases hstation : s.ctrl.station with
  | quiesce => exact .inr (.inl ⟨_, rfl, rfl⟩)
  | offline | silent | configFault => exact .inl ⟨rfl, rfl⟩
  | listening | active =>
    cases hrefusal : refusal s f c with
    | none =>
      refine .inr (.inr (.inr ⟨by simp, rfl, ?_⟩))
      cases tag with
      | none => exact .inl rfl
      | some g => exact .inr ⟨g, rfl⟩
    | some k =>
      cases tag with
      | none => exact .inr (.inl ⟨_, rfl, rfl⟩)
      | some g => exact .inr (.inr (.inl ⟨_, g, rfl, rfl⟩))

/-- What the table makes of a CANCEL (R26, R27): nothing, a removal with its report, or a detection. -/
theorem State.takeCancel_cases (s : State) (f : Frame) (target : Seq) :
    s.takeCancel f target = s
    ∨ s.takeCancel f target = { s with table := s.table.filter (fun r => !isRecord f.id target r) }
    ∨ (∃ g, s.takeCancel f target
        = State.reportRemoved { s with table := s.table.filter (fun r => !isRecord f.id target r) } g)
    ∨ s.takeCancel f target = s.takeDetection (unknownTarget f target) ∧ s.ctrl.station.receiving = true := by
  unfold State.takeCancel
  cases hstation : s.ctrl.station with
  | offline | silent | configFault => exact .inl rfl
  | listening | active | quiesce =>
    cases s.table.find? (isRecord f.id target) with
    | some x =>
      cases hown : ownTag s.ownId x with
      | none => exact .inr (.inl (by simp only [hown]))
      | some g => exact .inr (.inr (.inl ⟨g, by simp only [hown]⟩))
    | none =>
      by_cases hst : s.ctrl.station = .listening
      · exact .inl (by simp_all)
      · exact .inr (.inr (.inr ⟨by simp_all, rfl⟩))

theorem Sound.takeClaim {s : State} (hs : Sound s) (hpulses : pulsesInv s) (f : Frame) (c : ClaimFields)
    (tag : Option Byte) (hfree : f.id = s.ownId → channelFree s c.cls (plus s.now c.offset.toNat)) :
    Sound (s.takeClaim f c tag) := by
  obtain ⟨h, -⟩ | ⟨d, h, hon⟩ | ⟨d, g, h, hon⟩ | ⟨hstation, hnone, h⟩ := s.takeClaim_cases f c tag
  · rw [h]; exact hs
  · rw [h]; exact hs.takeDetection (StationState.ne_offline_of_receiving hon) d
  · rw [h]; exact (hs.reportRefused g).takeDetection (StationState.ne_offline_of_receiving hon) d
  · obtain ⟨hnames, hcheck⟩ := (refusal_eq_none s f c).1 hnone
    have hinserted := Sound.insertClaim tag ⟨hnames, hcheck, hfree⟩ hs hpulses hstation
    obtain h | ⟨g, h⟩ := h <;> rw [h]
    · exact hinserted
    · exact hinserted.reportInserted g _

theorem Sound.takeCancel {s : State} (hs : Sound s) (f : Frame) (target : Seq) : Sound (s.takeCancel f target) := by
  obtain h | h | ⟨g, h⟩ | ⟨h, hon⟩ := s.takeCancel_cases f target <;> rw [h]
  · exact hs
  · exact hs.filterTable _
  · exact (hs.filterTable _).settleCancelling g
  · exact hs.takeDetection (StationState.ne_offline_of_receiving hon) _

theorem Sound.setEntry {s : State} (hs : Sound s) (id : StationId) (e : RosterEntry) : Sound (s.setEntry id e) :=
  hs.of_core rfl

theorem Sound.stage78 {s : State} (hs : Sound s) (hon : s.ctrl.station.receiving = true) (hpulses : pulsesInv s)
    (f : Frame) (tag : Option Byte) (hfree : s.claimFree f) : Sound (s.stage78 f tag) := by
  have honline := StationState.ne_offline_of_receiving hon
  unfold State.stage78
  generalize stage7 (s.entry f.id) f s.now = answer
  obtain ⟨e, refused⟩ := answer
  have hentered := hs.setEntry f.id e
  cases refused with
  | none =>
    dsimp only
    unfold State.stage8
    split
    · next cls group weight offset hpayload =>
      exact hentered.takeClaim hpulses f ⟨cls, group, weight, offset⟩ tag fun hid => hfree hid _ _ _ _ hpayload
    · exact hentered.takeCancel f _
    · exact hentered
  | some d =>
    cases tag with
    | none => exact hentered.takeDetection honline d
    | some g => exact (hentered.settleCancelling g).takeDetection honline d

/-! ### The end of a frame (R54, R61 to R65) -/

theorem Sound.count {s : State} (hs : Sound s) (c : Counter) : Sound (s.count c) := hs.of_core rfl

theorem Sound.setFlag {s : State} (hs : Sound s) (f : Flag) : Sound (s.setFlag f) := hs.of_core rfl

theorem Sound.takeReceived {s : State} (hs : Sound s) (hon : s.ctrl.station.receiving = true) (hpulses : pulsesInv s)
    (f : Frame) : Sound (s.takeReceived f) := by
  have honline := StationState.ne_offline_of_receiving hon
  unfold State.takeReceived
  split
  · unfold State.goodPeerFrame
    dsimp only
    split
    · exact (hs.count .good).takeDetection honline _
    · next hpeer => exact (hs.count .good).stage78 hon hpulses f none fun hid => absurd hid hpeer
  · unfold State.foreignFrame
    dsimp only
    split
    · exact ((hs.count .foreign).setFlag .foreign).enterConfigFault honline
    · exact (hs.count .foreign).setFlag .foreign

/-- A frame is received only with LINK released, in the states that receive (R64, R65). -/
theorem received_ne_incomplete {s : State} (h : received s ≠ .incomplete) :
    s.ctrl.station.receiving = true ∧ s.bus.transmit = .quiet := by
  unfold received at h
  split at h
  · next hquiet _ =>
    split at h
    · next hon => exact ⟨hon, hquiet⟩
    · exact absurd rfl h
  · exact absurd rfl h

theorem Sound.endReceived {s : State} (hs : Sound s) (hpulses : pulsesInv s) : Sound s.endReceived := by
  unfold State.endReceived
  split
  · next f hf =>
    obtain ⟨hon, hquiet⟩ := received_ne_incomplete (s := s) (by rw [hf]; nofun)
    exact (hs.withQuietBus { s.bus with receive := .outOfFrame 0 } hon (by rw [hquiet]; rfl)).takeReceived hon hpulses f
  all_goals exact hs

theorem Sound.failCheck {s : State} (hs : Sound s) : Sound s.failCheck := by
  unfold State.failCheck
  split
  · next d hd =>
    obtain ⟨hon, hquiet⟩ := received_ne_incomplete (s := s) (by rw [hd]; nofun)
    exact (hs.withQuietBus { s.bus with receive := .unsynchronised 0 } hon (by rw [hquiet]; rfl)).takeDetection
      (StationState.ne_offline_of_receiving hon) d
  all_goals exact hs

theorem Sound.releaseSlot {s : State} (hs : Sound s) (hon : s.ctrl.station.receiving = true) (slot : SlotRef) :
    Sound (s.releaseSlot slot) := by
  obtain ⟨⟨hremembered, hend, -, hidentity⟩, hconfig, -, -, hsending, hmonitor, hquiesce⟩ := hs.station
  obtain ⟨-, -, -, -, -, -, hcancels⟩ := hs.request
  have hoff : ∀ p : Prop, s.ctrl.station.receiving = false → p := fun p h => by rw [hon] at h; cases h
  cases slot with
  | claim g => exact hs.clearClaimSlot
  | cancel g =>
    exact hs.of_station (stationInv_of_receiving hon ⟨hremembered, hend, hoff _, hidentity⟩ hconfig hsending hmonitor
      hquiesce) rfl rfl rfl rfl rfl rfl rfl ((List.length_filter_le _ _).trans hcancels) rfl
  | join =>
    exact hs.of_station (stationInv_of_receiving hon ⟨hremembered, hend, hoff _, hidentity⟩ hconfig hsending hmonitor
      hquiesce) rfl rfl rfl rfl rfl rfl rfl hcancels rfl

theorem Request.onCompleted_fair (slot : SlotRef) {r : Request} (hr : r.Becomes r) : (r.onCompleted slot).Fair r := by
  unfold Request.onCompleted
  split
  · next h =>
    have htwo := hr.waiting (.inr h.2)
    refine .inr ⟨by rw [h.2]; nofun, ?_, rfl, fun _ => by simp [Request.negotiating, h.2], ?_, ?_⟩
    · dsimp only; split <;> nofun
    · dsimp only; omega
    · dsimp only; split <;> nofun
  · split
    · trivial
    · exact .inl rfl

theorem Request.onCompleted_firing (slot : SlotRef) {r : Request} (hf : r.state = .firing) :
    r.onCompleted slot = .stay r := by
  simp [Request.onCompleted, hf]

/-- LINK and the slot of a completed frame are released (R54). -/
def State.released (s : State) (x : Sending) : State :=
  State.releaseSlot { s with bus := { s.bus with
    ownSeq := s.bus.ownSeq + 1, transmit := .quiet, receive := .outOfFrame 0
    defer := s.bus.defer || x.slot.isClaim } } x.slot

/-- The state when the Request Unit has been told of a completed frame, before stage 5 (R54, R135). -/
def State.completed (s : State) (x : Sending) : State := (s.released x).settle [] (Request.onCompleted x.slot)

theorem State.completeFrame_eq {s : State} {x : Sending} (hx : s.bus.transmit.frame = some x) :
    s.completeFrame = ((s.completed x).takeOwn x.frame x.slot.claimTag).takeWaitingMove := by
  unfold State.completeFrame
  rw [hx]
  rfl

theorem State.released_keeps (s : State) (x : Sending) : Keeps s (s.released x) := by
  unfold State.released
  cases x.slot <;> exact .of_table_eq rfl rfl rfl (fun _ hr _ => hr) rfl

theorem State.released_out (s : State) (x : Sending) : (s.released x).out = s.out := by
  unfold State.released
  cases x.slot <;> rfl

theorem State.released_station (s : State) (x : Sending) : (s.released x).ctrl.station = s.ctrl.station := by
  unfold State.released
  cases x.slot <;> rfl

theorem State.released_quiet (s : State) (x : Sending) : (s.released x).bus.transmit = .quiet := by
  unfold State.released
  cases x.slot <;> rfl

theorem Sound.completed {s : State} (hs : Sound s) {x : Sending} (hx : s.bus.transmit.frame = some x) :
    Sound (s.completed x) ∧ Keeps s (s.completed x) := by
  have hon := StationState.receiving_of_working (hs.working_of_frame hx)
  have hreleased : Sound (s.released x) := (hs.withQuietBus { s.bus with
    ownSeq := s.bus.ownSeq + 1, transmit := .quiet, receive := .outOfFrame 0
    defer := s.bus.defer || x.slot.isClaim } hon rfl).releaseSlot hon x.slot
  have hfair : ∀ r ∈ (s.released x).req.list, (Request.onCompleted x.slot r).Fair r := fun r hr =>
    Request.onCompleted_fair x.slot (requestInv_becomes hreleased.request hr)
  obtain ⟨-, -, htags, -⟩ := hreleased.request
  exact ⟨hreleased.settle [] hfair fun r _ hf => Request.onCompleted_firing x.slot hf,
    (s.released_keeps x).trans (Keeps.settle hfair [] htags)⟩

/-- The claim of the own frame finds its channel free when its last cell has been read back (R15, R133). -/
theorem flightInv.claimFree {s : State} (h : flightInv s) {x : Sending} (hx : s.bus.transmit.frame = some x)
    (hreceive : s.bus.receive = .inFrame x.frame.cells) : s.claimFree x.frame := by
  intro _ cls group weight offset hpayload
  obtain ⟨-, -, -, -, -, hcarries⟩ := h x _ hx hreceive
  unfold carries at hcarries
  split at hcarries
  · obtain ⟨r, -, -, -, g, w, o, hp, -, -, hfree⟩ := hcarries
    rw [hpayload] at hp
    cases hp
    rwa [Nat.sub_self, Nat.zero_add] at hfree
  · obtain ⟨c, -, -, hp⟩ := hcarries
    rw [hpayload] at hp
    cases hp
  · obtain ⟨g, hp⟩ := hcarries
    rw [hpayload] at hp
    cases hp

/-- The table's answer to a CLAIM leaves a released LINK released. -/
theorem State.takeClaim_quiet {s : State} (h : s.bus.transmit = .quiet) (f : Frame) (c : ClaimFields)
    (tag : Option Byte) : (s.takeClaim f c tag).bus.transmit = .quiet := by
  obtain ⟨h', -⟩ | ⟨d, h', -⟩ | ⟨d, g, h', -⟩ | ⟨-, -, h' | ⟨g, h'⟩⟩ := s.takeClaim_cases f c tag <;> rw [h']
  · exact h
  · exact State.takeDetection_quiet h d
  · exact State.takeDetection_quiet (s := s.reportRefused g) h d
  · exact h
  · exact h

/-- The table's answer to a CANCEL leaves a released LINK released. -/
theorem State.takeCancel_quiet {s : State} (h : s.bus.transmit = .quiet) (f : Frame) (target : Seq) :
    (s.takeCancel f target).bus.transmit = .quiet := by
  obtain h' | h' | ⟨g, h'⟩ | ⟨h', -⟩ := s.takeCancel_cases f target <;> rw [h']
  · exact h
  · exact h
  · exact h
  · exact State.takeDetection_quiet h _

/-- Stages 5 to 8 of the own frame leave a released LINK released. -/
theorem State.takeOwn_quiet {s : State} (h : s.bus.transmit = .quiet) (f : Frame) (tag : Option Byte) :
    (s.takeOwn f tag).bus.transmit = .quiet := by
  unfold State.takeOwn State.stage78
  generalize stage7 ((s.count .good).entry f.id) f (s.count .good).now = answer
  obtain ⟨e, refused⟩ := answer
  have hentered : ((s.count .good).setEntry f.id e).bus.transmit = .quiet := h
  cases refused with
  | none =>
    dsimp only
    unfold State.stage8
    cases f.payload with
    | claim cls group weight offset => exact State.takeClaim_quiet hentered _ _ _
    | cancel target => exact State.takeCancel_quiet hentered _ _
    | join group => exact h
  | some d =>
    cases tag with
    | none => exact State.takeDetection_quiet (s := (s.count .good).setEntry f.id e) h d
    | some g => exact State.takeDetection_quiet (s := ((s.count .good).setEntry f.id e).reportStopped g) h d

theorem completedDue_iff (s : State) : completedDue s = true ↔
    ∃ x, s.bus.transmit = .sending x ∧ s.bus.receive = .inFrame x.frame.cells := by
  unfold completedDue
  split
  · next x cells hx hcells =>
    simp [hx, hcells]
  · next hnot =>
    refine ⟨nofun, fun ⟨x, hx, hcells⟩ => absurd hcells ?_⟩
    exact hnot x _ hx

theorem Sound.completeFrame {s : State} (hs : Sound s) (hpulses : pulsesInv s) (hflight : flightInv s)
    (hdue : completedDue s = true) : Sound s.completeFrame := by
  obtain ⟨x, hsending, hreceive⟩ := (completedDue_iff s).1 hdue
  have hx : s.bus.transmit.frame = some x := by rw [hsending]; rfl
  have hon := StationState.receiving_of_working (hs.working_of_frame hx)
  obtain ⟨hcompleted, hkeeps⟩ := hs.completed hx
  have hout : (s.completed x).out = s.out := s.released_out x
  have hstation : (s.completed x).ctrl.station = s.ctrl.station := s.released_station x
  have hquiet : (s.completed x).bus.transmit = .quiet := s.released_quiet x
  rw [State.completeFrame_eq hx]
  refine Sound.takeWaitingMove ?_ (State.takeOwn_quiet hquiet _ _)
  refine (hcompleted.count .good).stage78 (by rw [← hstation] at hon; exact hon) (hkeeps.pulses hpulses) _ _ ?_
  intro hid cls group weight offset hpayload
  have hfree := hflight.claimFree hx hreceive (hid.trans (State.ownId_congr hkeeps.image)) cls group weight offset
    hpayload
  have hnow : (s.completed x).now = s.now := hkeeps.now
  have hkept := hkeeps.channelFree hout hfree
  rw [← hnow] at hkept
  exact hkept

end Sys2Proof.Machine
end

section
/-!
PROOFS. Starts and ends of pulses, and the timed events of records and requests, keep the invariants (R28, R29, R132,
R139 to R141, R153 to R158).
-/

namespace Sys2Proof.Machine

/-! ### Channels -/

theorem State.channel_setChannel (s : State) (c c' : Channel) (e : Option ChannelEntry) :
    (s.setChannel c e).channel c' = if c' = c then e else s.channel c' := by
  unfold State.channel State.setChannel
  rw [Vector.getElem_set]
  by_cases h : c' = c
  · rw [if_pos h, if_pos (by rw [h])]
  · rw [if_neg h, if_neg fun h' => h (BitVec.eq_of_toNat_eq h'.symm)]

@[simp] theorem State.channel_setChannel_same (s : State) (c : Channel) (e : Option ChannelEntry) :
    (s.setChannel c e).channel c = e := by rw [State.channel_setChannel, if_pos rfl]

theorem State.channel_setChannel_ne (s : State) {c c' : Channel} (h : c' ≠ c) (e : Option ChannelEntry) :
    (s.setChannel c e).channel c' = s.channel c' := by rw [State.channel_setChannel, if_neg h]

theorem idleChannels_set (c : Channel) : idleChannels.set c.toNat none c.isLt = idleChannels := by
  revert c; decide

/-- The request that a busy channel's entry names fires on that channel (R153). -/
theorem outputInv.of_entry {s : State} (h : outputInv s) {c : Channel} {e : ChannelEntry} (he : s.channel c = some e) :
    ∃ r ∈ s.req.list, r.state = .firing ∧ s.channelOf r.cls = c ∧ r.tag = e.tag
      ∧ ∃ t, r.start = some t ∧ e = entryOf s r t := by
  obtain ⟨r, hr, hf, hc, t, ht, rfl⟩ := h.2 c e he
  exact ⟨r, hr, hf, hc, rfl, t, ht, rfl⟩

/-! ### The end of a pulse (R141, R156, R158) -/

/-- The channel idle and the request of its pulse gone, for whatever reason. -/
def State.pulseOver (s : State) (c : Channel) (e : ChannelEntry) (o : ResultOutcome) : State :=
  (s.setChannel c none).leaveRequest e.tag o .none

theorem leaveRequest_fate_fair (tag : Byte) (o : ResultOutcome) (why : Reason) (r : Request) :
    Disposition.Fair r (if r.tag = tag then .leave o why else .stay r) := by
  split
  · trivial
  · exact .inl rfl

theorem State.mem_leaveRequest_list (s : State) (tag : Byte) (o : ResultOutcome) (why : Reason) (q : Request) :
    q ∈ (s.leaveRequest tag o why).req.list ↔ q ∈ s.req.list ∧ q.tag ≠ tag := by
  rw [State.leaveRequest, State.mem_settle_list]
  constructor
  · rintro ⟨r, hr, h⟩
    split at h
    · obtain h | h := h <;> cases h
    · next htag => obtain h | h := h <;> cases h; exact ⟨hr, htag⟩
  · rintro ⟨hq, htag⟩
    exact ⟨q, hq, .inr (if_neg htag)⟩

theorem outputInv.pulseOver {s : State} (h : outputInv s) (htags : (s.req.list.map Request.tag).Nodup) {c : Channel}
    {e : ChannelEntry} (he : s.channel c = some e) (o : ResultOutcome) : outputInv (s.pulseOver c e o) := by
  obtain ⟨r, hr, hf, hc, htag, t, ht, hentry⟩ := h.of_entry he
  have hlist : ∀ q, q ∈ (s.pulseOver c e o).req.list ↔ q ∈ s.req.list ∧ q.tag ≠ e.tag :=
    State.mem_leaveRequest_list (s.setChannel c none) e.tag o .none
  have hchannel : ∀ c', (s.pulseOver c e o).channel c' = if c' = c then none else s.channel c' :=
    fun c' => s.channel_setChannel c c' none
  refine ⟨fun q hq hqf => ?_, fun c' e' he' => ?_⟩
  · obtain ⟨hqs, hne⟩ := (hlist q).1 hq
    obtain ⟨u, hu, hbusy⟩ := h.1 q hqs hqf
    refine ⟨u, hu, ?_⟩
    have hother : s.channelOf q.cls ≠ c := fun hqc => by
      rw [hqc, he] at hbusy
      cases hbusy
      exact hne rfl
    exact (hchannel (s.channelOf q.cls)).trans ((if_neg hother).trans hbusy)
  · rw [hchannel] at he'
    split at he'
    · cases he'
    · next hne =>
      obtain ⟨q, hq, hqf, hqc, u, hu, hqe⟩ := h.2 c' e' he'
      refine ⟨q, (hlist q).2 ⟨hq, fun hqtag => hne ?_⟩, hqf, hqc, u, hu, hqe⟩
      rw [← hqc, ← hc, eq_of_tag_eq _ htags q r hq hr (hqtag.trans htag.symm)]

theorem Sound.pulseOver {s : State} (hs : Sound s) {c : Channel} {e : ChannelEntry} (he : s.channel c = some e)
    (o : ResultOutcome) : Sound (s.pulseOver c e o) := by
  obtain ⟨-, -, htags, -⟩ := hs.request
  have hfair : ∀ r ∈ (s.setChannel c none).req.list,
      Disposition.Fair r (if r.tag = e.tag then .leave o .none else .stay r) :=
    fun r _ => leaveRequest_fate_fair e.tag o .none r
  have hkeeps : Keeps s (s.pulseOver c e o) :=
    (Keeps.of_table_eq (s := s) (t := s.setChannel c none) rfl rfl rfl (fun _ hr _ => hr) rfl).trans
      (Keeps.settle hfair [] htags)
  refine hs.of_keeps hkeeps ?_ (requestInv_settle (s := s.setChannel c none) hfair [] hs.request)
    (hs.output.pulseOver htags he o) rfl
  refine stationInv_of_requests hs.station rfl ⟨rfl, rfl, rfl⟩ rfl ⟨rfl, rfl⟩ (fun y hy => ?_) ?_ (fun q hq => ?_) ?_
  · obtain ⟨x, hx, hxy, -⟩ := hkeeps.mem_table hy
    exact ⟨x, hx, hxy.state⟩
  · rintro - ⟨hclaim, hcancels, hjoin⟩
    refine ⟨?_, ?_, hjoin⟩
    · change s.req.claimSlot.filter _ = none
      rw [hclaim]
      rfl
    · change s.req.cancelSlots.filter _ = []
      rw [hcancels]
      rfl
  · exact ⟨q, ((State.mem_leaveRequest_list (s.setChannel c none) e.tag o .none q).1 hq).1, id⟩
  · intro hidle
    change s.out.set c.toNat none c.isLt = idleChannels
    rw [hidle]
    exact idleChannels_set c

/-! ### The start of a pulse (R140, R155) -/

/-- A request that does not fire is listed only in the states that receive (R79, R146 to R148). -/
theorem Sound.receiving_of_listed {s : State} (hs : Sound s) {r : Request} (hr : r ∈ s.req.list)
    (hnot : r.state ≠ .firing) : s.ctrl.station.receiving = true := by
  obtain ⟨-, -, -, ⟨hempty, hsilent⟩, -⟩ := hs.station
  cases hstation : s.ctrl.station with
  | listening | active | quiesce => rfl
  | offline => rw [(hempty (.inl hstation)).1] at hr; cases hr
  | configFault => rw [(hempty (.inr hstation)).1] at hr; cases hr
  | silent => exact absurd (hsilent hstation r hr) hnot

section Fill

variable {s : State} {r : Request} {t : Tick} (hr : r ∈ s.req.list) (hgranted : r.state = .granted)
  (hstart : r.start = some t) (htags : (s.req.list.map Request.tag).Nodup)

theorem State.fillChannel_list (s : State) (r : Request) : (s.fillChannel r).req.list
    = s.req.list.map (fun q => if q.tag = r.tag then { q with state := .firing } else q) := rfl

include hr htags in
/-- What fires after the start: the request itself, and what fired before. -/
theorem State.mem_fillChannel_firing {q : Request} (hf : q.state = .firing) :
    q ∈ (s.fillChannel r).req.list ↔ q = { r with state := .firing } ∨ q ∈ s.req.list ∧ q.tag ≠ r.tag := by
  rw [State.fillChannel_list, List.mem_map]
  constructor
  · rintro ⟨p, hp, rfl⟩
    split
    · next htag => exact .inl (by rw [eq_of_tag_eq _ htags p r hp hr htag])
    · next htag => exact .inr ⟨hp, htag⟩
  · rintro (rfl | ⟨hq, htag⟩)
    · exact ⟨r, hr, if_pos rfl⟩
    · exact ⟨q, hq, if_neg htag⟩

include hr hgranted hstart htags in
theorem outputInv.fillChannel (h : outputInv s) (hidle : s.channel (s.channelOf r.cls) = none) :
    outputInv (s.fillChannel r) := by
  have hfill : s.fillChannel r = (s.updateRequest r.tag (fun x => { x with state := .firing })).setChannel
      (s.channelOf r.cls) (some (entryOf s r t)) := by
    simp only [State.fillChannel, hstart, Option.getD_some]
    rfl
  have hchannel : ∀ c, (s.fillChannel r).channel c
      = if c = s.channelOf r.cls then some (entryOf s r t) else s.channel c := fun c => by
    rw [hfill]
    exact State.channel_setChannel _ _ _ _
  have hfiring : ∀ q, q ∈ s.req.list → q.state = .firing → q.tag ≠ r.tag := fun q hq hf htag => by
    rw [eq_of_tag_eq _ htags q r hq hr htag, hgranted] at hf
    cases hf
  refine ⟨fun q hq hf => ?_, fun c e he => ?_⟩
  · obtain rfl | ⟨hq, -⟩ := (State.mem_fillChannel_firing hr htags hf).1 hq
    · exact ⟨t, hstart, (hchannel _).trans (if_pos rfl)⟩
    · obtain ⟨u, hu, hbusy⟩ := h.1 q hq hf
      have hother : s.channelOf q.cls ≠ s.channelOf r.cls := fun hc => by
        rw [hc, hidle] at hbusy
        cases hbusy
      exact ⟨u, hu, (hchannel _).trans ((if_neg hother).trans hbusy)⟩
  · rw [hchannel] at he
    split at he
    · next hc =>
      cases he
      exact ⟨{ r with state := .firing }, (State.mem_fillChannel_firing hr htags rfl).2 (.inl rfl), rfl, hc.symm, t,
        hstart, rfl⟩
    · obtain ⟨q, hq, hf, hc, u, hu, hqe⟩ := h.2 c e he
      exact ⟨q, (State.mem_fillChannel_firing hr htags hf).2 (.inr ⟨hq, hfiring q hq hf⟩), hf, hc, u, hu, hqe⟩

include hr hstart htags in
/-- A claim that fires is apart from every other own record on its channel, for its own record was (R15, R154). -/
theorem channelInv.fillChannel (h : channelInv s) {y : ClaimRecord} (hy : y ∈ s.table) (hown : y.owner = s.ownId)
    (htag : y.tag = some r.tag) (hcls : y.cls = r.cls) (hyt : y.start = t) : channelInv (s.fillChannel r) := by
  obtain ⟨hrecords, hfiring⟩ := h
  refine ⟨hrecords, fun q hq hf u hu x hx hxown hxtag hc => ?_⟩
  obtain rfl | ⟨hq, -⟩ := (State.mem_fillChannel_firing hr htags hf).1 hq
  · obtain rfl : t = u := Option.some.inj (hstart.symm.trans hu)
    have hsymm : Std.Symm fun x y : ClaimRecord => x.owner = s.ownId → y.owner = s.ownId →
        s.channelOf x.cls = s.channelOf y.cls →
        apart x.start (s.classOf x.cls).duration y.start (s.classOf y.cls).duration :=
      ⟨fun a b hab hb ha hba => apart_symm ((s.duration_lt _).trans (by omega)) (hab ha hb hba.symm)⟩
    have hne : y ≠ x := fun he => hxtag (he ▸ htag)
    have hapart := hrecords.forall hy hx hne hown hxown (by rw [hcls]; exact hc.symm)
    rwa [hcls, hyt] at hapart
  · exact hfiring q hq hf u hu x hx hxown hxtag hc

include hr hgranted hstart htags in
theorem Sound.fillChannel (hs : Sound s) (hidle : s.channel (s.channelOf r.cls) = none) {y : ClaimRecord}
    (hy : y ∈ s.table) (hown : y.owner = s.ownId) (htag : y.tag = some r.tag) (hcls : y.cls = r.cls)
    (hyt : y.start = t) : Sound (s.fillChannel r) where
  running := hs.running
  station := by
    obtain ⟨hcontroller, hconfig, -, -, hsending, hmonitor, hquiesce⟩ := hs.station
    exact stationInv_of_receiving (hs.receiving_of_listed hr (by rw [hgranted]; nofun)) hcontroller hconfig hsending
      hmonitor hquiesce
  request := by
    have hset : requestInv (s.updateRequest r.tag (fun x => { x with state := .firing })) := by
      rw [State.updateRequest_eq_settle]
      refine requestInv_settle_of_becomes [] hs.request fun q hq p hp => ?_
      cases hp
      have hbounds := requestInv_becomes hs.request hq
      split
      · exact ⟨rfl, nofun, hbounds.attempts, nofun⟩
      · exact hbounds
    exact hset
  output := hs.output.fillChannel hr hgranted hstart htags hidle
  channel := hs.channel.fillChannel hr hstart htags hy hown htag hcls hyt
  table := hs.table
  order := hs.order
  record := hs.record
  drive := hs.drive

end Fill

/-- The own record of a GRANTED request: confirmed, at its start tick (R33, R136). -/
theorem tieInv.granted_record {s : State} (h : tieInv s) (htags : (s.req.list.map Request.tag).Nodup) {r : Request}
    (hr : r ∈ s.req.list) (hgranted : r.state = .granted) : ∃ y ∈ s.table, y.owner = s.ownId ∧ y.tag = some r.tag
      ∧ y.cls = r.cls ∧ r.start = some y.start ∧ y.state = .confirmed := by
  obtain ⟨hstand, hrecords, -⟩ := h
  obtain ⟨y, hy, hown, htag⟩ := hrecords r hr (.inl hgranted)
  obtain ⟨q, hq, hqtag, -, hcls, -, hstart, hstate⟩ := hstand y hy hown r.tag htag
  obtain rfl := eq_of_tag_eq _ htags q r hq hr hqtag
  rw [hgranted] at hstate
  exact ⟨y, hy, hown, htag, hcls, hstart, hstate⟩

/-- The departure of one request leaves the own records of the others with their tags. -/
theorem State.mem_pulseOver_table {s : State} {c : Channel} {e : ChannelEntry} {o : ResultOutcome}
    {y : ClaimRecord} {g : Byte} (hy : y ∈ s.table) (htag : y.tag = some g) (hne : g ≠ e.tag) :
    y ∈ (s.pulseOver c e o).table := by
  have hgone : ∀ b ∈ (s.req.list.filterMap (departure fun r =>
      if r.tag = e.tag then .leave o .none else .stay r)).map ResultEntry.tag, b = e.tag := by
    intro b hb
    obtain ⟨x, hx, rfl⟩ := List.mem_map.1 hb
    obtain ⟨q, -, hq⟩ := List.mem_filterMap.1 hx
    unfold departure at hq
    split at hq
    · next hleave =>
      dsimp only at hleave
      split at hleave
      · next hqtag => cases hq; exact hqtag
      · cases hleave
    · cases hq
    · cases hq
  refine List.mem_map.2 ⟨y, hy, ?_⟩
  cases hown : ownTag (s.setChannel c none).ownId y with
  | none => rfl
  | some b =>
    have hb : b = g := by
      unfold ownTag at hown
      split at hown
      · exact Option.some.inj (hown.symm.trans htag)
      · cases hown
    dsimp only
    rw [if_neg]
    rw [hb, List.contains_iff_mem]
    exact fun hmem => hne (hgone g hmem)

/-- A start that is handed to the Output Unit and does not fault keeps the invariants. -/
theorem Sound.fire {s t : State} (hs : Sound s) (htie : tieInv s) {r : Request} (hr : r ∈ s.req.list)
    (hgranted : r.state = .granted) (hstep : s.fire r = .next t) : Sound t := by
  obtain ⟨-, -, htags, -⟩ := hs.request
  obtain ⟨y, hy, hown, htag, hcls, hstart, -⟩ := htie.granted_record htags hr hgranted
  unfold State.fire at hstep
  split at hstep
  · next hidle =>
    cases hstep
    exact hs.fillChannel hr hgranted hstart htags hidle hy hown htag hcls rfl
  · next e he =>
    split at hstep
    · cases hstep
      obtain ⟨q, hq, hf, -, hqtag, -⟩ := hs.output.of_entry he
      have hne : r.tag ≠ e.tag := fun h => by
        rw [eq_of_tag_eq _ htags r q hr hq (h.trans hqtag.symm), hf] at hgranted
        cases hgranted
      have hover : Sound (s.pulseOver (s.channelOf r.cls) e .done) := hs.pulseOver he .done
      obtain ⟨-, -, htags', -⟩ := hover.request
      refine Sound.fillChannel (s := s.pulseOver (s.channelOf r.cls) e .done) ?_ hgranted hstart htags' hover ?_
        (State.mem_pulseOver_table hy htag hne) hown htag hcls rfl
      · exact (State.mem_leaveRequest_list _ e.tag .done .none r).2 ⟨hr, hne⟩
      · exact State.channel_setChannel_same s (s.channelOf r.cls) none
    · cases hstep

/-! ### Timed events of records and requests -/

theorem Sound.reportConfirmed {s : State} (hs : Sound s) (tag : Byte) : Sound (s.reportConfirmed tag) := by
  refine hs.updateRequest tag _ fun r hr _ => ?_
  split
  · next h => exact .inr ⟨by rw [h]; nofun, nofun, rfl, nofun, (requestInv_becomes hs.request hr).attempts, nofun⟩
  · exact .inl rfl

theorem Sound.reportsConfirmed {s : State} (hs : Sound s) (tags : List Byte) :
    Sound (tags.foldl State.reportConfirmed s) := by
  induction tags generalizing s with
  | nil => exact hs
  | cons g rest ih => exact ih (hs.reportConfirmed g)

theorem Sound.expireHold {s : State} (hs : Sound s) (owner : StationId) (seq : Seq) :
    Sound (s.expireHold owner seq) := by
  have hconfirmed : Sound { s with table := s.table.map (fun r =>
      if holdOver s owner seq r then { r with state := .confirmed } else r) } := by
    have hkeeps : Keeps s { s with table := s.table.map (fun r =>
        if holdOver s owner seq r then { r with state := .confirmed } else r) } := by
      refine ⟨rfl, rfl, rfl, fun _ hr _ => hr, fun r =>
        some (if holdOver s owner seq r then { r with state := .confirmed } else r),
        (congrFun List.filterMap_eq_map' _).symm, fun x y hy => ?_⟩
      cases hy
      split
      · exact ⟨⟨rfl, rfl, rfl, rfl, rfl, rfl, rfl, nofun⟩, fun _ _ _ h => h⟩
      · exact ⟨.refl x, fun _ _ _ h => h⟩
    refine hs.of_keeps hkeeps ?_ hs.request hs.output rfl
    refine stationInv_of_requests hs.station rfl ⟨rfl, rfl, rfl⟩ rfl ⟨rfl, rfl⟩ (fun y hy => ?_) (fun _ h => h)
      (fun q hq => ⟨q, hq, id⟩) id
    obtain ⟨x, hx, hxy, -⟩ := hkeeps.mem_table hy
    exact ⟨x, hx, hxy.state⟩
  exact hconfirmed.reportsConfirmed _

theorem headDue_iff (s : State) : headDue s = true ↔ s.ctrl.station = .active
    ∧ (∀ q ∈ s.req.list, q.negotiating = false) ∧ s.table.length < 48 ∧ s.head.isSome = true := by
  simp [headDue, hasRoom, and_assoc]

theorem State.head_eq_some {s : State} {r : Request} (h : s.head = some r) : r ∈ s.req.list ∧ r.state = .waiting :=
  ⟨List.mem_of_find?_eq_some h, by simpa using List.find?_some h⟩

/-- The one request that takes a tag is the only one to begin negotiation. -/
theorem countP_negotiating_le_one (l : List Request) (htags : (l.map Request.tag).Nodup) (tag : Byte)
    (f : Request → Request) (hnone : ∀ q ∈ l, q.negotiating = false) :
    (l.map (fun q => if q.tag = tag then f q else q)).countP Request.negotiating ≤ 1 := by
  induction l with
  | nil => exact Nat.zero_le 1
  | cons q rest ih =>
    rw [List.map_cons, List.nodup_cons] at htags
    obtain ⟨hq, hrest⟩ := List.forall_mem_cons.1 hnone
    by_cases htag : q.tag = tag
    · have hsame : rest.map (fun q => if q.tag = tag then f q else q) = rest := by
        refine (List.map_congr_left fun p hp => if_neg fun hptag => htags.1 ?_).trans (List.map_id _)
        rw [htag, ← hptag]
        exact List.mem_map_of_mem hp
      have hzero : rest.countP Request.negotiating = 0 := List.countP_eq_zero.2 fun p hp => by simp [hrest p hp]
      rw [List.map_cons, hsame, List.countP_cons, hzero, if_pos htag]
      cases (f q).negotiating <;> simp
    · rw [List.map_cons, if_neg htag, List.countP_cons, hq]
      exact ih htags.2 hrest

theorem Sound.moveHead {s : State} (hs : Sound s) (hdue : headDue s = true) : Sound s.moveHead := by
  obtain ⟨hstation, hidle, -, -⟩ := (headDue_iff s).1 hdue
  unfold State.moveHead
  split
  · exact hs
  · next r hhead =>
    obtain ⟨hr, hwaiting⟩ := State.head_eq_some hhead
    obtain ⟨hcontroller, hconfig, -, -, hsending, hmonitor, hquiesce⟩ := hs.station
    obtain ⟨hlength, hcredit, htags, hnonzero, -, hattempts, hcancels⟩ := hs.request
    have hfiring : ∀ q, q.state = .firing → (q ∈ s.req.list.map (fun x =>
        if x.tag = r.tag then { x with state := .sending, overdue := deadlineOver s r } else x) ↔ q ∈ s.req.list) := by
      intro q hf
      rw [List.mem_map]
      constructor
      · rintro ⟨p, hp, rfl⟩
        split at hf
        · cases hf
        · next htag => rw [if_neg htag]; exact hp
      · intro hq
        refine ⟨q, hq, if_neg fun htag => ?_⟩
        rw [eq_of_tag_eq _ htags q r hq hr htag, hwaiting] at hf
        cases hf
    refine hs.of_keeps (.of_table_eq rfl rfl rfl (fun q hq hf => (hfiring q hf).1 hq) rfl)
      (stationInv_of_receiving (by show s.ctrl.station.receiving = true; rw [hstation]; rfl)
        hcontroller hconfig hsending hmonitor hquiesce) ?_ (outputInv_congr hs.output rfl rfl hfiring) rfl
    have hmap : (s.req.list.map (fun x =>
        if x.tag = r.tag then { x with state := .sending, overdue := deadlineOver s r } else x)).map Request.tag
          = s.req.list.map Request.tag := by
      rw [List.map_map]
      refine List.map_congr_left fun x _ => ?_
      simp only [Function.comp_apply]
      split <;> rfl
    refine ⟨?_, ?_, ?_, fun q hq => ?_, ?_, fun q hq => ?_, hcancels⟩
    · exact (List.length_map _).le.trans hlength
    · show (s.req.list.map _).length + _ ≤ 16
      rw [List.length_map]
      exact hcredit
    · show ((s.req.list.map _).map Request.tag).Nodup
      rw [hmap]
      exact htags
    · obtain ⟨p, hp, rfl⟩ := List.mem_map.1 hq
      have := hnonzero p hp
      split <;> exact this
    · rw [← List.countP_eq_length_filter]
      exact countP_negotiating_le_one _ htags _ _ hidle
    · obtain ⟨p, hp, rfl⟩ := List.mem_map.1 hq
      split
      · next htag =>
        rw [eq_of_tag_eq _ htags p r hp hr htag]
        obtain ⟨-, htwo⟩ := hattempts r hr
        have := htwo (.inl hwaiting)
        exact ⟨this.trans (by omega), fun _ => this⟩
      · exact hattempts p hp

/-- The listed request with a tag is the only one with it. -/
theorem State.request_unique {s : State} (htags : (s.req.list.map Request.tag).Nodup) {tag : Byte} {r q : Request}
    (h : s.request tag = some r) (hq : q ∈ s.req.list) (htag : q.tag = tag) : q = r := by
  obtain ⟨hr, hrtag⟩ := s.mem_of_request tag r h
  exact eq_of_tag_eq _ htags q r hq hr (htag.trans hrtag.symm)

theorem Sound.expireDeadline {s : State} (hs : Sound s) {tag : Byte} (hdue : deadlineDue tag s = true) :
    Sound (s.leaveRequest tag .denied .deadline) := by
  obtain ⟨-, -, htags, -⟩ := hs.request
  obtain ⟨r, hr, hwaiting⟩ := (Option.any_eq_true _ _).1 hdue
  simp only [Bool.and_eq_true, decide_eq_true_eq] at hwaiting
  refine hs.leaveRequest tag _ _ fun q hq htag => ?_
  rw [State.request_unique htags hr hq htag, hwaiting.1]
  nofun

theorem Sound.startReached {s t : State} (hs : Sound s) (htie : tieInv s) {tag : Byte}
    (hstep : execStartTickReached tag s = .next t) : Sound t := by
  obtain ⟨-, -, htags, -⟩ := hs.request
  unfold execStartTickReached at hstep
  split at hstep
  · next hdue =>
    split at hstep
    · cases hstep; exact hs
    · next r hr =>
      obtain ⟨hmem, -⟩ := s.mem_of_request tag r hr
      split at hstep
      · next hgranted => exact hs.fire htie hmem hgranted hstep
      · next hnot =>
        cases hstep
        have hcancelling : r.state = .cancelling := by
          unfold startDue at hdue
          rw [hr, Option.any_some] at hdue
          simpa [hnot] using (Bool.and_eq_true_iff.1 hdue).2 |> fun h => (by simpa [hnot] using h :
            r.state = .cancelling ∧ s.onBus (.cancel tag) = false).1
        refine hs.leaveRequest tag _ _ fun q hq htag => ?_
        rw [State.request_unique htags hr hq htag, hcancelling]
        nofun
  · cases hstep; exact hs

theorem Sound.endChannel {s : State} (hs : Sound s) (c : Channel) : Sound (s.endChannel c) := by
  unfold State.endChannel
  split
  · next e he => exact hs.pulseOver he .done
  · exact hs

end Sys2Proof.Machine
end

section
/-!
PROOFS. The commands of the local port and the resets keep the invariants (R81, R89, R91, R129, R142, R158, R172).
-/

namespace Sys2Proof.Machine

/-! ### Answers -/

theorem Sound.answer {s : State} (hs : Sound s) (st : Status) (bytes : List Byte) : Sound (s.answer st bytes) :=
  hs.of_core rfl

theorem Sound.onPort {s t : State} {f : State → State} (hs : Sound s) (hf : Sound (f s))
    (hstep : onPort f s = .next t) : Sound t := by
  unfold Machine.onPort at hstep
  split at hstep <;> cases hstep
  · exact hf
  · exact hs

theorem Sound.onEvent {s t : State} {due : State → Bool} {f : State → State} (hs : Sound s)
    (hf : due s = true → Sound (f s)) (hstep : onEvent due f s = .next t) : Sound t := by
  unfold Machine.onEvent at hstep
  split at hstep
  · next hdue => cases hstep; exact hf hdue
  · cases hstep; exact hs

/-- The head of the result queue leaves (R170). -/
theorem Sound.removePresented {s : State} (hs : Sound s) : Sound s.removePresented := by
  have hresults : ∀ l, l.length ≤ s.port.results.length → Sound { s with port := { s.port with results := l } } := by
    intro l hl
    obtain ⟨hlength, hcredit, hrest⟩ := hs.request
    exact ⟨hs.running, hs.station, ⟨hlength, le_trans (Nat.add_le_add_left hl _) hcredit, hrest⟩, hs.output,
      hs.channel, hs.table,
      hs.order, hs.record, hs.drive⟩
  exact (hresults (s.port.results.drop 1) (by rw [List.length_drop]; omega)).of_core rfl

/-! ### SUBMIT (R129, R130) -/

theorem submitAnswer_ok {tag cls : Byte} {s : State} (h : submitAnswer tag cls s = .ok) :
    s.ctrl.station.receiving = true ∧ tag ≠ 0 ∧ s.request tag = none ∧ s.req.list.length < 8
      ∧ s.req.list.length + s.port.results.length < 16 := by
  unfold submitAnswer at h
  split at h
  · cases h
  · next hon =>
    split at h
    · cases h
    · next hparam =>
      split at h
      · cases h
      · next hcredit =>
        simp only [Bool.or_eq_true, decide_eq_true_eq, not_or, Bool.not_eq_true, Option.isSome_eq_false_iff,
          Option.isNone_iff_eq_none] at hparam hcredit
        exact ⟨by simpa using hon, hparam.1.1.1, hparam.1.1.2, by omega, by omega⟩

theorem request_none_iff (s : State) (tag : Byte) : s.request tag = none ↔ ∀ r ∈ s.req.list, r.tag ≠ tag := by
  simp [State.request]

theorem Sound.submit {s : State} (hs : Sound s) {tag cls : Byte} (h : submitAnswer tag cls s = .ok)
    (notBefore deadline : Tick) : Sound { s with req := { s.req with
      list := s.req.list ++ [newRequest tag cls notBefore deadline] } } := by
  obtain ⟨hon, hzero, hnew, hroom, hcredit⟩ := submitAnswer_ok h
  obtain ⟨hcontroller, hconfig, -, -, hsending, hmonitor, hquiesce⟩ := hs.station
  obtain ⟨-, -, htags, hnonzero, hnegotiating, hattempts, hcancels⟩ := hs.request
  have hmem : ∀ q, q ∈ s.req.list ++ [newRequest tag cls notBefore deadline]
      ↔ q ∈ s.req.list ∨ q = newRequest tag cls notBefore deadline := fun q => by
    rw [List.mem_append, List.mem_singleton]
  have hfiring : ∀ q, q.state = .firing → (q ∈ s.req.list ++ [newRequest tag cls notBefore deadline]
      ↔ q ∈ s.req.list) := fun q hf => by
    rw [hmem]
    refine or_iff_left fun he => ?_
    rw [he] at hf
    cases hf
  refine hs.of_keeps (.of_table_eq rfl rfl rfl (fun q hq hf => (hfiring q hf).1 hq) rfl)
    (stationInv_of_receiving hon hcontroller hconfig hsending hmonitor hquiesce) ?_
    (outputInv_congr hs.output rfl rfl hfiring) rfl
  refine ⟨?_, ?_, ?_, fun q hq => ?_, ?_, fun q hq => ?_, hcancels⟩
  · rw [List.length_append, List.length_singleton]
    exact hroom
  · rw [List.length_append, List.length_singleton]
    show s.req.list.length + 1 + s.port.results.length ≤ 16
    omega
  · rw [List.map_append, List.map_singleton]
    refine List.nodup_append.2 ⟨htags, List.nodup_singleton _, fun a ha b hb hab => ?_⟩
    obtain ⟨r, hr, rfl⟩ := List.mem_map.1 ha
    exact (request_none_iff s tag).1 hnew r hr (hab.trans (List.mem_singleton.1 hb))
  · obtain hq | rfl := (hmem q).1 hq
    · exact hnonzero q hq
    · exact hzero
  · have hwaits : (newRequest tag cls notBefore deadline).negotiating = false := rfl
    rw [List.filter_append, List.filter_singleton, hwaits]
    simpa using hnegotiating
  · obtain hq | rfl := (hmem q).1 hq
    · exact hattempts q hq
    · exact ⟨Nat.zero_le 3, fun _ => Nat.zero_le 2⟩

/-! ### CANCEL and ABORT (R142, R158) -/

/-- A CANCEL frame placed for a request that is marked or becomes CANCELLING (R142). -/
theorem Sound.placeCancel {s : State} (hs : Sound s) {r : Request} (hr : r ∈ s.req.list) (hnot : r.state ≠ .firing)
    (hroom : s.cancelSlotsFull = false) : Sound (s.placeCancel r) := by
  obtain ⟨hcontroller, hconfig, -, -, hsending, hmonitor, hquiesce⟩ := hs.station
  refine hs.of_station (stationInv_of_receiving (hs.receiving_of_listed hr hnot) hcontroller hconfig hsending hmonitor
    hquiesce) rfl rfl rfl rfl rfl rfl rfl ?_ rfl
  have hlt : s.req.cancelSlots.length < 2 := by simpa [State.cancelSlotsFull] using hroom
  rw [State.placeCancel_req, List.length_append, List.length_singleton]
  omega

theorem Sound.withholdBoundary {s : State} (hs : Sound s) (tag : Byte) : Sound (s.withholdBoundary tag) := by
  unfold State.withholdBoundary
  split
  · exact hs.of_core rfl
  · exact hs

theorem State.withholdBoundary_list (s : State) (tag : Byte) : (s.withholdBoundary tag).req = s.req := by
  unfold State.withholdBoundary
  split <;> rfl

theorem Sound.cancelRequest {s : State} (hs : Sound s) {tag : Byte} {r : Request} (hrequest : s.request tag = some r) :
    Sound (cancelRequest s r).1 := by
  obtain ⟨-, -, htags, -⟩ := hs.request
  obtain ⟨hr, rfl⟩ := s.mem_of_request tag r hrequest
  have hbounds := requestInv_becomes hs.request hr
  have hsame : ∀ q ∈ s.req.list, q.tag = r.tag → q = r := fun q hq h => eq_of_tag_eq _ htags q r hq hr h
  have hleave : r.state ≠ .firing → Sound (s.leaveRequest r.tag .cancelled .none) := fun hnot =>
    hs.leaveRequest _ _ _ fun q hq h => by rw [hsame q hq h]; exact hnot
  have hcancel : r.state ≠ .firing → s.cancelSlotsFull = false →
      Sound ((s.placeCancel r).updateRequest r.tag (fun x => { x with state := .cancelling })) := fun hnot hroom => by
    refine (hs.placeCancel hr hnot hroom).updateRequest _ _ fun q hq h => .inr ?_
    rw [hsame q hq h]
    exact ⟨hnot, nofun, rfl, nofun, hbounds.attempts, nofun⟩
  unfold Machine.cancelRequest
  split
  · next hst => exact hleave (by rw [hst]; nofun)
  · next hst =>
    have hnot : r.state ≠ .firing := by rw [hst]; nofun
    split
    · exact (hs.withholdBoundary r.tag).leaveRequest _ _ _ fun q hq h => by
        rw [State.withholdBoundary_list] at hq
        rw [hsame q hq h]
        exact hnot
    · split
      · exact hs
      · split
        · exact hs
        · next hroom =>
          refine (hs.placeCancel hr hnot (Bool.eq_false_iff.2 hroom)).updateRequest _ _ fun q hq h => .inr ?_
          rw [hsame q hq h]
          exact ⟨hnot, hnot, rfl, id, hbounds.attempts, hbounds.waiting⟩
  · exact hs
  · next hst =>
    have hnot : r.state ≠ .firing := by rw [hst]; nofun
    split
    · exact hleave hnot
    · split
      · exact hs
      · next hroom => exact hcancel hnot (Bool.eq_false_iff.2 hroom)
  · next hst =>
    have hnot : r.state ≠ .firing := by rw [hst]; nofun
    split
    · exact hleave hnot
    · split
      · exact hs
      · next hroom => exact hcancel hnot (Bool.eq_false_iff.2 hroom)
  · exact hs

/-! ### CONFIGURE, JOIN and RESUME (R82, R91, R172) -/

/-- In OFFLINE nothing is listed, no channel is busy and the table is empty. -/
theorem Sound.offline_empty {s : State} (hs : Sound s) (hoff : s.ctrl.station = .offline) :
    s.req.list = [] ∧ s.out = idleChannels ∧ s.table = [] := by
  obtain ⟨-, -, hwithdrawn, ⟨hempty, -⟩, -⟩ := hs.station
  obtain ⟨hlist, hout⟩ := hempty (.inl hoff)
  obtain ⟨-, -, -, -, htable, -⟩ := hwithdrawn (by rw [hoff]; rfl)
  exact ⟨hlist, hout, htable⟩

theorem tableInv_of_nil {s : State} (h : s.table = []) : tableInv s ∧ orderInv s ∧ recordInv s := by
  unfold tableInv orderInv recordInv
  rw [h]
  simp

theorem channelInv_of_nil {s : State} (h : s.table = []) : channelInv s := by
  unfold channelInv
  rw [h]
  simp

/-- In OFFLINE the image may be replaced. -/
theorem Sound.configure {s : State} (hs : Sound s) (hoff : s.ctrl.station = .offline) (image : Image) :
    Sound { s with port := { s.port with image := some image } } := by
  obtain ⟨hlist, hout, htable⟩ := hs.offline_empty hoff
  obtain ⟨hcontroller, ⟨hdigest, -⟩, hrest⟩ := hs.station
  obtain ⟨h1, h2, h3⟩ := tableInv_of_nil (s := { s with port := { s.port with image := some image } }) htable
  exact ⟨hs.running, ⟨hcontroller, ⟨hdigest, fun h => absurd hoff h⟩, hrest⟩, hs.request, outputInv_of_empty hlist hout,
    channelInv_of_nil htable, h1, h2, h3, hs.drive⟩

theorem Sound.enterListening {s : State} (hs : Sound s) (hoff : s.ctrl.station = .offline ∨ s.ctrl.station = .silent)
    (digest : Byte) (hvalid : s.port.image.any validImage = true) :
    Sound (State.enterListening { s with port := { s.port with digest := some digest } }) :=
  (hs.startListening hoff digest hvalid _).beginObserving rfl

theorem Sound.join {s : State} (hs : Sound s) (hoff : s.ctrl.station = .offline) {img : Image}
    (himage : s.port.image = some img) (hvalid : validImage img = true) :
    Sound (State.enterListening { s with port := { s.port with digest := some (imageDigest img) } }) :=
  hs.enterListening (.inl hoff) _ (by rw [himage]; exact hvalid)

theorem Sound.resume {s : State} (hs : Sound s) (hsilent : s.ctrl.station = .silent) : Sound s.enterListening := by
  obtain ⟨hdigest, hvalid⟩ := hs.config.outside (by rw [hsilent]; nofun)
  obtain ⟨digest, hd⟩ := Option.isSome_iff_exists.1 hdigest
  have hsame : { s with port := { s.port with digest := some digest } } = s := by rw [← hd]
  rw [← hsame]
  exact hs.enterListening (.inr hsilent) digest hvalid

end Sys2Proof.Machine
end

section
/-!
PROOFS. What is due and what a step does: every event whose condition holds is among the due ones (O3), the shapes of
port commands and events, and the values of a held reset (O8).
-/

namespace Sys2Proof.Machine

/-! ### What is due (R2) -/

theorem request_mem_of_any {s : State} {tag : Byte} {p : Request → Bool} (h : (s.request tag).any p = true) :
    ∃ r ∈ s.req.list, r.tag = tag := by
  obtain ⟨r, hr, -⟩ := (Option.any_eq_true _ _).1 h
  exact ⟨r, s.mem_of_request tag r hr⟩

theorem isRecord_iff (owner : StationId) (seq : Seq) (x : ClaimRecord) :
    isRecord owner seq x = true ↔ x.owner = owner ∧ x.seq = seq := by simp [isRecord]

/-- An event whose condition holds is an event command that can concern the records, requests and channels there
are. -/
theorem mem_eventCommands {s : State} {c : Instr} (h : isDue s c = true) : c ∈ eventCommands s := by
  unfold eventCommands
  cases c with
  | holdExpiry owner seq =>
    obtain ⟨x, hx, hover⟩ := List.any_eq_true.1 (show s.table.any (holdOver s owner seq) = true from h)
    unfold holdOver at hover
    simp only [Bool.and_eq_true] at hover
    obtain ⟨rfl, rfl⟩ := (isRecord_iff owner seq x).1 hover.1.1
    exact List.mem_append_left _ (List.mem_append_left _ (List.mem_append_left _ (List.mem_append_right _
      (List.mem_map.2 ⟨x, hx, rfl⟩))))
  | retirement owner seq =>
    obtain ⟨x, hx, hover⟩ := List.any_eq_true.1 (show s.table.any (retired s owner seq) = true from h)
    unfold retired at hover
    simp only [Bool.and_eq_true] at hover
    obtain ⟨rfl, rfl⟩ := (isRecord_iff owner seq x).1 hover.1
    exact List.mem_append_left _ (List.mem_append_left _ (List.mem_append_right _ (List.mem_map.2 ⟨x, hx, rfl⟩)))
  | deadlineExpiry tag =>
    obtain ⟨r, hr, rfl⟩ := request_mem_of_any (show (s.request tag).any _ = true from h)
    exact List.mem_append_left _ (List.mem_append_right _ (List.mem_map.2 ⟨r, hr, rfl⟩))
  | startTickReached tag =>
    obtain ⟨r, hr, rfl⟩ := request_mem_of_any (show (s.request tag).any _ = true from h)
    exact List.mem_append_right _ (List.mem_map.2 ⟨r, hr, rfl⟩)
  | channelEnd c =>
    have hlisted : ∀ c : Channel, Instr.channelEnd c ∈ [.busSyncGained, .idleCount24, .attemptStart,
        .arbitrationLost, .arbitrationWon, .readback, .frameCompleted, .frameEndReceived, .frameCheckFailed,
        .startBit, .driveStart, .driveEnd, .stopFall, .longClassification, .stopRise, .quiesceEnd, .busFault,
        .joinIntervalEnd, .headToSending, .channelEnd 0, .channelEnd 1, .channelEnd 2, .channelEnd 3] := by decide
    exact List.mem_append_left _ (List.mem_append_left _ (List.mem_append_left _ (List.mem_append_left _ (hlisted c))))
  | powerOnReset | resetRelease | readState | readTime | readEvents | fetchResult | resultClockedOut | query _
  | submit _ _ _ _ | cancel _ | abort _ | join | leave | resume | configure _ | readConfig | readErrorRecord
  | clearError | readCounters | clearCounters | readTable _ | readRoster _ | unknownCommand _
  | transactionDiscarded _ => cases h
  | _ => simp

/-- Every event whose condition holds is among the due events. -/
theorem mem_dueEvents_iff (s : State) (c : Instr) : c ∈ dueEvents s ↔ isDue s c = true :=
  ⟨fun h => (List.mem_filter.1 h).2, fun h => List.mem_filter.2 ⟨mem_eventCommands h, h⟩⟩

theorem not_isDue_of_nil {s : State} (h : dueEvents s = []) (c : Instr) : isDue s c = false := by
  refine Bool.eq_false_iff.2 fun hdue => ?_
  have hmem := (mem_dueEvents_iff s c).2 hdue
  rw [h] at hmem
  cases hmem

theorem choose_mem (k : Nat) (c : Instr) (rest : List Instr) : choose k c rest ∈ c :: rest := by
  unfold choose
  have hlt : Config.firstTaken k % (rest.length + 1) < (c :: rest).length :=
    Nat.mod_lt _ (Nat.succ_pos _)
  rw [List.getD_eq_getElem _ _ hlt]
  exact List.getElem_mem _

/-- With no command waiting, an event that is due comes to the front of the queue, or one tick passes. -/
theorem State.idle_cases (s : State) : (dueEvents s = [] ∧ s.idle = s.tick)
    ∨ ∃ c n, c ∈ dueEvents s ∧ s.idle = { s with pending := [c], choices := n } := by
  unfold State.idle
  cases h : dueEvents s with
  | nil => exact .inl ⟨rfl, rfl⟩
  | cons c rest =>
    cases rest with
    | nil => exact .inr ⟨c, s.choices, List.mem_singleton.2 rfl, rfl⟩
    | cons c' rest => exact .inr ⟨_, _, choose_mem s.choices c (c' :: rest), rfl⟩

theorem step_of_nil {s : State} (h : s.pending = []) : step s = .next s.idle := by simp only [step, h]

theorem step_of_cons {s : State} {c : Instr} {rest : List Instr} (h : s.pending = c :: rest) :
    step s = exec c { s with pending := rest } := by simp only [step, h]

/-- Settles O3: `eventCommands` names every event that can be due, and of those due one is chosen. -/
theorem everyDueEventComesBeforeTheTick : Obligations.EveryDueEventComesBeforeTheTick := by
  refine ⟨fun s hempty hdue => ?_, fun s c h => (mem_dueEvents_iff s c).2 h⟩
  obtain ⟨hnil, -⟩ | ⟨c, n, hc, hidle⟩ := s.idle_cases
  · exact absurd hnil hdue
  · exact ⟨c, n, hc, (mem_dueEvents_iff s c).1 hc, (step_of_nil hempty).trans (congrArg _ hidle)⟩

/-- Settles O1. -/
theorem stepTakesTheFrontCommand : Obligations.StepTakesTheFrontCommand := fun _ _ _ h => step_of_cons h

/-- A step takes the command at the front of the queue, or none waits and a tick passes or an event comes up. -/
theorem step_cases {s t : State} (h : step s = .next t) :
    (∃ c rest, s.pending = c :: rest ∧ exec c { s with pending := rest } = .next t)
    ∨ (dueEvents s = [] ∧ t = s.tick) ∨ ∃ c n, t = { s with pending := [c], choices := n } := by
  cases hpending : s.pending with
  | cons c rest => exact .inl ⟨c, rest, rfl, (step_of_cons hpending).symm.trans h⟩
  | nil =>
    rw [step_of_nil hpending] at h
    cases h
    obtain ⟨hnil, hidle⟩ | ⟨c, n, -, hidle⟩ := s.idle_cases
    · exact .inr (.inl ⟨hnil, hidle⟩)
    · exact .inr (.inr ⟨c, n, hidle⟩)

/-! ### The shapes of the commands -/

/-- A well-formed command that the local port carries is a port command. -/
theorem exec_eq_onPort {c : Instr} (hport : (portEncode c).isSome = true) (hwell : c.wellFormed = true)
    (hwhole : ∀ received, c ≠ .transactionDiscarded received) : ∃ f, ∀ s, exec c s = onPort f s := by
  cases c with
  | transactionDiscarded received => exact absurd rfl (hwhole received)
  | unknownCommand code =>
    refine ⟨fun s => s.answer .badParam [], fun s => ?_⟩
    exact if_pos hwell
  | readState | readTime | readEvents | fetchResult | query _ | submit _ _ _ _ | cancel _ | abort _ | join | leave
  | resume | configure _ | readConfig | readErrorRecord | clearError | readCounters | clearCounters | readTable _
  | readRoster _ => exact ⟨_, fun _ => rfl⟩
  | _ => cases hport

/-- Every event but a start tick has one effect, where it is due. -/
theorem exec_eq_onEvent {c : Instr} (hevent : (portEncode c).isNone = true) (hpower : c ≠ .powerOnReset)
    (hrelease : c ≠ .resetRelease) (hclocked : c ≠ .resultClockedOut) (hstart : ∀ tag, c ≠ .startTickReached tag) :
    ∃ f, ∀ s, exec c s = onEvent (fun u => isDue u c) f s := by
  cases c with
  | powerOnReset => exact absurd rfl hpower
  | resetRelease => exact absurd rfl hrelease
  | resultClockedOut => exact absurd rfl hclocked
  | startTickReached tag => exact absurd rfl (hstart tag)
  | busSyncGained | idleCount24 | attemptStart | arbitrationLost | readback | frameCompleted | frameEndReceived
  | frameCheckFailed | driveStart | driveEnd | stopFall | longClassification | stopRise | quiesceEnd | busFault
  | joinIntervalEnd | holdExpiry _ _ | retirement _ _ | headToSending | deadlineExpiry _ | channelEnd _ | startBit
  | arbitrationWon => exact ⟨_, fun _ => rfl⟩
  | _ => cases hevent

/-- An event command whose condition does not hold changes nothing. -/
theorem exec_not_due {c : Instr} {s : State} (hevent : (portEncode c).isNone = true) (hpower : c ≠ .powerOnReset)
    (hrelease : c ≠ .resetRelease) (hclocked : c ≠ .resultClockedOut) (hdue : isDue s c = false) :
    exec c s = .next s := by
  by_cases hstart : ∃ tag, c = .startTickReached tag
  · obtain ⟨tag, rfl⟩ := hstart
    exact if_neg (Bool.eq_false_iff.1 hdue)
  · obtain ⟨f, hf⟩ := exec_eq_onEvent hevent hpower hrelease hclocked (not_exists.1 hstart)
    rw [hf, onEvent_not_due (fun u => isDue u c) f s hdue]

/-- A command that the port does not take leaves the station as it was (R81, R167). -/
theorem exec_not_taken {c : Instr} {s : State} (hclosed : s.resetHeld = true ∨ s.port.transaction = .discarded)
    (hport : (portEncode c).isSome = true) (hwell : c.wellFormed = true)
    (hwhole : ∀ received, c ≠ .transactionDiscarded received) : exec c s = .next s := by
  obtain ⟨f, hf⟩ := exec_eq_onPort hport hwell hwhole
  rw [hf]
  obtain hheld | hdiscarded := hclosed
  · exact onPort_held f s hheld
  · exact onPort_discarded f s hdiscarded

theorem exec_unknownCommand_next {code : Byte} {s t : State} (h : exec (.unknownCommand code) s = .next t) :
    (Instr.unknownCommand code).wellFormed = true := by
  by_contra hill
  have hrefused : exec (.unknownCommand code) s = .refused .illFormed := if_neg hill
  rw [hrefused] at h
  cases h

theorem exec_transactionDiscarded_next {received : List Byte} {s t : State}
    (h : exec (.transactionDiscarded received) s = .next t) :
    t = { s with port := { s.port with transaction := .idle } } := by
  have hcases : execTransactionDiscarded received s = .next t := h
  unfold execTransactionDiscarded at hcases
  split at hcases <;> cases hcases
  rfl

/-! ### While the reset is held (R81) -/

/-- A reset that goes on holds the values it holds. -/
theorem State.held_held (s : State) : s.held.held = s.held := by
  simp only [State.held]
  cases s.port.transaction <;> rfl

/-- No result is presented while the reset is held. -/
theorem not_presenting_of_held {s : State} (h : s.resetHeld = true) : s.presenting = false := by
  simp only [State.presenting, h, Bool.not_true, Bool.false_and]

/-- At the values of a held reset no event is due. -/
theorem not_isDue_of_held {s : State} (h : s.held = s) (c : Instr) : isDue s c = false := by
  rw [← h]
  cases c with
  | channelEnd c =>
    have hidle : ∀ c, s.held.channel c = none := fun c => Vector.getElem_replicate c.isLt
    show channelEndDue c s.held = false
    rw [channelEndDue, hidle]
    rfl
  | _ => rfl

/-- While the reset is held no transaction but a discarded one goes on, and a reset leaves that as it is (R167). -/
theorem Transaction.onReset_tick (low : Bool) (x : Transaction) :
    (x.onReset.tick low true).onReset = x.onReset.tick low true := by
  obtain h | h := x.tick_onReset low <;> rw [h] <;> rfl

/-- While the reset is held a tick moves only what stands outside the station. -/
theorem State.held_tick {s : State} (h : s.held = s) : s.tick.held = s.tick := by
  rw [← h]
  have hport : s.held.tick.held = { s.held.tick with port := { s.held.tick.port with
      transaction := (s.port.transaction.onReset.tick (s.port.selects.headD false) true).onReset } } := rfl
  rw [hport, Transaction.onReset_tick]
  rfl

theorem State.held_withPending {s : State} (h : s.held = s) (rest : List Instr) (n : Nat) :
    State.held { s with pending := rest, choices := n } = { s with pending := rest, choices := n } :=
  congrArg (fun u : State => { u with pending := rest, choices := n }) h

theorem State.held_discarded {s : State} (h : s.held = s) :
    State.held { s with port := { s.port with transaction := .idle } }
      = { s with port := { s.port with transaction := .idle } } :=
  congrArg (fun u : State => { u with port := { u.port with transaction := .idle } }) h

/-- A command taken while the reset is held keeps the values that the reset holds, or releases it. -/
theorem exec_of_held {s t : State} (hreset : s.resetHeld = true) (h : s.held = s) (c : Instr)
    (hstep : exec c s = .next t) : t.held = t ∨ t = { s with resetHeld := false } := by
  cases hevent : portEncode c with
  | some bytes =>
    have hport : (portEncode c).isSome = true := by rw [hevent]; rfl
    have hsame : c.wellFormed = true → (∀ received, c ≠ .transactionDiscarded received) → t.held = t := by
      intro hwell hwhole
      rw [exec_not_taken (.inl hreset) hport hwell hwhole] at hstep
      cases hstep
      exact h
    cases c with
    | transactionDiscarded received =>
      rw [exec_transactionDiscarded_next hstep]
      exact .inl (State.held_discarded h)
    | unknownCommand code => exact .inl (hsame (exec_unknownCommand_next hstep) nofun)
    | powerOnReset => cases hport
    | _ => exact .inl (hsame rfl nofun)
  | none =>
    by_cases hpower : c = .powerOnReset
    · subst hpower
      cases hstep
      exact .inl s.held_held
    · by_cases hrelease : c = .resetRelease
      · subst hrelease
        cases hstep
        exact .inr rfl
      · by_cases hclocked : c = .resultClockedOut
        · subst hclocked
          have hnot : exec .resultClockedOut s = .next s := onEvent_not_due _ _ s (not_presenting_of_held hreset)
          rw [hnot] at hstep
          cases hstep
          exact .inl h
        · rw [exec_not_due (by rw [hevent]; rfl) hpower hrelease hclocked (not_isDue_of_held h c)] at hstep
          cases hstep
          exact .inl h

/-- With the values of a held reset, a step keeps them or releases the reset. -/
theorem step_of_held {s t : State} (hreset : s.resetHeld = true) (h : s.held = s) (hstep : step s = .next t) :
    t.held = t ∨ t.resetHeld = false ∧ t.held = { t with resetHeld := true } := by
  obtain ⟨c, rest, -, hexec⟩ | ⟨-, rfl⟩ | ⟨c, n, rfl⟩ := step_cases hstep
  · have hrest := State.held_withPending h rest s.choices
    obtain hheld | rfl := exec_of_held (s := { s with pending := rest }) hreset hrest c hexec
    · exact .inl hheld
    · refine .inr ⟨rfl, hrest.trans ?_⟩
      show _ = ({ s with pending := rest, resetHeld := true } : State)
      rw [← hreset]
  · exact .inl (State.held_tick h)
  · exact .inl (State.held_withPending h [c] n)

end Sys2Proof.Machine
end

section
/-!
PROOFS. No command but POWER_ON_RESET holds the reset, so every step keeps the values of a held reset (O8, R81).
-/

namespace Sys2Proof.Machine

section Operations

variable (s : State)

@[simp] theorem State.placeJoin_resetHeld : s.placeJoin.resetHeld = s.resetHeld := by
  unfold State.placeJoin
  split
  · split <;> rfl
  · split <;> rfl
  · rfl

@[simp] theorem State.takeWaitingMove_resetHeld : s.takeWaitingMove.resetHeld = s.resetHeld := by
  unfold State.takeWaitingMove
  split <;> rfl

@[simp] theorem State.takeDetection_resetHeld (d : Detection) : (s.takeDetection d).resetHeld = s.resetHeld := by
  obtain ⟨c, h⟩ | h | h | h := s.takeDetection_cases d <;> rw [h] <;> rfl

@[simp] theorem State.takeFall_resetHeld : s.takeFall.resetHeld = s.resetHeld := by
  unfold State.takeFall
  dsimp only
  split <;> rfl

@[simp] theorem State.drain_resetHeld (tick : Tick) : (s.drain tick).resetHeld = s.resetHeld := rfl

@[simp] theorem State.takeRise_resetHeld : s.takeRise.resetHeld = s.resetHeld := by
  unfold State.takeRise
  dsimp only
  split <;> rfl

@[simp] theorem State.enterListening_resetHeld : s.enterListening.resetHeld = s.resetHeld := by
  unfold State.enterListening State.beginObserving
  dsimp only
  split
  · exact State.takeFall_resetHeld _
  · rfl

@[simp] theorem State.reportAttemptOver_resetHeld (slot : SlotRef) :
    (s.reportAttemptOver slot).resetHeld = s.resetHeld := rfl

@[simp] theorem State.takeClaim_resetHeld (f : Frame) (c : ClaimFields) (tag : Option Byte) :
    (s.takeClaim f c tag).resetHeld = s.resetHeld := by
  obtain ⟨h, -⟩ | ⟨d, h, -⟩ | ⟨d, g, h, -⟩ | ⟨-, -, h | ⟨g, h⟩⟩ := s.takeClaim_cases f c tag <;> rw [h]
  · exact State.takeDetection_resetHeld _ d
  · exact State.takeDetection_resetHeld (s.reportRefused g) d
  · rfl

@[simp] theorem State.takeCancel_resetHeld (f : Frame) (target : Seq) :
    (s.takeCancel f target).resetHeld = s.resetHeld := by
  obtain h | h | ⟨g, h⟩ | ⟨h, -⟩ := s.takeCancel_cases f target <;> rw [h]
  · rfl
  · exact State.takeDetection_resetHeld _ _

@[simp] theorem State.stage8_resetHeld (f : Frame) (tag : Option Byte) :
    (s.stage8 f tag).resetHeld = s.resetHeld := by
  unfold State.stage8
  split
  · exact s.takeClaim_resetHeld f _ tag
  · exact s.takeCancel_resetHeld f _
  · rfl

@[simp] theorem State.stage78_resetHeld (f : Frame) (tag : Option Byte) :
    (s.stage78 f tag).resetHeld = s.resetHeld := by
  unfold State.stage78
  dsimp only
  split
  · exact State.stage8_resetHeld _ f tag
  · refine (State.takeDetection_resetHeld _ _).trans ?_
    cases tag <;> rfl

@[simp] theorem State.takeReceived_resetHeld (f : Frame) : (s.takeReceived f).resetHeld = s.resetHeld := by
  unfold State.takeReceived State.goodPeerFrame State.foreignFrame
  dsimp only
  split
  · split
    · exact State.takeDetection_resetHeld _ _
    · exact State.stage78_resetHeld _ f none
  · split
    · exact State.enterConfigFault_resetHeld _
    · rfl

theorem State.loseArbitration_resetHeld : s.loseArbitration.resetHeld = s.resetHeld := by
  unfold State.loseArbitration
  split
  · rfl
  · exact State.takeWaitingMove_resetHeld _

theorem State.failReadback_resetHeld : s.failReadback.resetHeld = s.resetHeld := by
  unfold State.failReadback
  split
  · rfl
  · exact (State.takeWaitingMove_resetHeld _).trans
      ((State.reportAttemptOver_resetHeld _ _).trans (State.takeDetection_resetHeld _ _))

theorem State.releaseSlot_resetHeld (slot : SlotRef) : (s.releaseSlot slot).resetHeld = s.resetHeld := by
  cases slot <;> rfl

theorem State.completeFrame_resetHeld : s.completeFrame.resetHeld = s.resetHeld := by
  unfold State.completeFrame
  split
  · rfl
  · refine (State.takeWaitingMove_resetHeld _).trans ((State.stage78_resetHeld _ _ _).trans ?_)
    exact State.releaseSlot_resetHeld _ _

theorem State.endReceived_resetHeld : s.endReceived.resetHeld = s.resetHeld := by
  unfold State.endReceived
  split
  · exact State.takeReceived_resetHeld _ _
  · rfl
  · rfl

theorem State.failCheck_resetHeld : s.failCheck.resetHeld = s.resetHeld := by
  unfold State.failCheck
  split
  · exact State.takeDetection_resetHeld _ _
  · rfl
  · rfl

theorem State.attempt_resetHeld : s.attempt.resetHeld = s.resetHeld := by
  have hclaim : ∀ (u : State) (tag : Byte), (u.attemptClaim tag).resetHeld = u.resetHeld := fun u tag => by
    unfold State.attemptClaim
    split
    · rfl
    · split <;> rfl
  have hcancel : ∀ (u : State) (tag : Byte), (u.attemptCancel tag).resetHeld = u.resetHeld := fun u tag => by
    unfold State.attemptCancel
    split <;> rfl
  unfold State.attempt
  dsimp only
  split
  · rfl
  · exact hclaim _ _
  · exact hcancel _ _
  · rfl

theorem State.startDrive_resetHeld : s.startDrive.resetHeld = s.resetHeld := by
  unfold State.startDrive
  dsimp only
  split
  · exact State.enterConfigFault_resetHeld _
  · rfl

theorem State.endQuiesce_resetHeld : s.endQuiesce.resetHeld = s.resetHeld := by
  unfold State.endQuiesce State.resumeWork
  dsimp only
  split
  · rfl
  · split
    · rfl
    · exact State.placeJoin_resetHeld _

theorem State.endJoinInterval_resetHeld : s.endJoinInterval.resetHeld = s.resetHeld := by
  unfold State.endJoinInterval
  split <;> rfl

theorem State.expireHold_resetHeld (owner : StationId) (seq : Seq) : (s.expireHold owner seq).resetHeld = s.resetHeld :=
    by
  have hfold : ∀ (tags : List Byte) (u : State), (tags.foldl State.reportConfirmed u).resetHeld = u.resetHeld := by
    intro tags
    induction tags with
    | nil => exact fun _ => rfl
    | cons g rest ih => exact fun u => ih _
  exact hfold _ _

theorem State.moveHead_resetHeld : s.moveHead.resetHeld = s.resetHeld := by
  unfold State.moveHead
  split <;> rfl

theorem State.endChannel_resetHeld (c : Channel) : (s.endChannel c).resetHeld = s.resetHeld := by
  unfold State.endChannel
  split <;> rfl

theorem cancelRequest_resetHeld (r : Request) : (cancelRequest s r).1.resetHeld = s.resetHeld := by
  unfold cancelRequest State.withholdBoundary
  split
  · rfl
  · split
    · split <;> rfl
    · split
      · rfl
      · split <;> rfl
  · rfl
  · split
    · rfl
    · split <;> rfl
  · split
    · rfl
    · split <;> rfl
  · rfl

end Operations

/-! ### The commands -/

theorem onPort_resetHeld {f : State → State} {s t : State} (hf : (f s).resetHeld = s.resetHeld)
    (hstep : onPort f s = .next t) : t.resetHeld = s.resetHeld := by
  unfold onPort at hstep
  split at hstep <;> cases hstep
  · exact hf
  · rfl

theorem onEvent_resetHeld {due : State → Bool} {f : State → State} {s t : State} (hf : (f s).resetHeld = s.resetHeld)
    (hstep : onEvent due f s = .next t) : t.resetHeld = s.resetHeld := by
  unfold onEvent at hstep
  split at hstep <;> cases hstep
  · exact hf
  · rfl

/-- A command other than POWER_ON_RESET does not hold the reset. -/
theorem exec_resetHeld {c : Instr} {s t : State} (hpower : c ≠ .powerOnReset) (hreset : s.resetHeld = false)
    (hstep : exec c s = .next t) : t.resetHeld = false := by
  suffices h : t.resetHeld = s.resetHeld ∨ t.resetHeld = false from h.elim (fun h => h.trans hreset) id
  have harm := hstep
  unfold exec at harm
  cases c with
  | powerOnReset => exact absurd rfl hpower
  | resetRelease => cases hstep; exact .inr rfl
  | readState | readTime | readEvents | readConfig | readErrorRecord | readCounters | clearError | clearCounters =>
    exact .inl (onPort_resetHeld rfl harm)
  | readTable index =>
    refine .inl (onPort_resetHeld ?_ harm)
    split
    · rfl
    · split <;> rfl
  | readRoster id =>
    refine .inl (onPort_resetHeld ?_ harm)
    split <;> rfl
  | fetchResult =>
    refine .inl (onPort_resetHeld ?_ harm)
    split <;> rfl
  | query tag =>
    refine .inl (onPort_resetHeld ?_ harm)
    split <;> rfl
  | submit tag cls notBefore deadline =>
    refine .inl (onPort_resetHeld ?_ harm)
    split <;> rfl
  | cancel tag =>
    refine .inl (onPort_resetHeld ?_ harm)
    split
    · rfl
    · exact cancelRequest_resetHeld s _
  | abort channel =>
    refine .inl (onPort_resetHeld ?_ harm)
    split
    · rfl
    · split <;> rfl
  | configure image =>
    refine .inl (onPort_resetHeld ?_ harm)
    split <;> rfl
  | join =>
    refine .inl (onPort_resetHeld ?_ harm)
    split
    · rfl
    · split
      · rfl
      · split
        · exact State.enterListening_resetHeld _
        · rfl
  | leave =>
    refine .inl (onPort_resetHeld ?_ harm)
    split <;> rfl
  | resume =>
    refine .inl (onPort_resetHeld ?_ harm)
    split
    · exact State.enterListening_resetHeld _
    · rfl
  | unknownCommand code =>
    have hport : onPort (fun s => s.answer .badParam []) s = .next t :=
      (if_pos (exec_unknownCommand_next hstep)).symm.trans hstep
    exact .inl (onPort_resetHeld rfl hport)
  | transactionDiscarded received => rw [exec_transactionDiscarded_next hstep]; exact .inl rfl
  | startTickReached tag =>
    have hcases : execStartTickReached tag s = .next t := hstep
    unfold execStartTickReached at hcases
    split at hcases
    · split at hcases
      · cases hcases; exact .inl rfl
      · split at hcases
        · unfold State.fire at hcases
          split at hcases
          · cases hcases; exact .inl rfl
          · split at hcases <;> cases hcases
            exact .inl rfl
        · cases hcases; exact .inl rfl
    · cases hcases; exact .inl rfl
  | resultClockedOut | idleCount24 | startBit | arbitrationWon | driveEnd | longClassification | busFault
  | retirement _ _ | deadlineExpiry _ => exact .inl (onEvent_resetHeld rfl harm)
  | busSyncGained => exact .inl (onEvent_resetHeld (f := State.gainSync) (State.placeJoin_resetHeld _) harm)
  | attemptStart => exact .inl (onEvent_resetHeld s.attempt_resetHeld harm)
  | arbitrationLost => exact .inl (onEvent_resetHeld s.loseArbitration_resetHeld harm)
  | readback => exact .inl (onEvent_resetHeld s.failReadback_resetHeld harm)
  | frameCompleted => exact .inl (onEvent_resetHeld s.completeFrame_resetHeld harm)
  | frameEndReceived => exact .inl (onEvent_resetHeld s.endReceived_resetHeld harm)
  | frameCheckFailed => exact .inl (onEvent_resetHeld s.failCheck_resetHeld harm)
  | driveStart => exact .inl (onEvent_resetHeld s.startDrive_resetHeld harm)
  | stopFall => exact .inl (onEvent_resetHeld s.takeFall_resetHeld harm)
  | stopRise => exact .inl (onEvent_resetHeld s.takeRise_resetHeld harm)
  | quiesceEnd => exact .inl (onEvent_resetHeld s.endQuiesce_resetHeld harm)
  | joinIntervalEnd => exact .inl (onEvent_resetHeld s.endJoinInterval_resetHeld harm)
  | holdExpiry owner seq => exact .inl (onEvent_resetHeld (s.expireHold_resetHeld owner seq) harm)
  | headToSending => exact .inl (onEvent_resetHeld s.moveHead_resetHeld harm)
  | channelEnd c => exact .inl (onEvent_resetHeld (s.endChannel_resetHeld c) harm)

theorem step_keeps_heldInv {s t : State} (h : heldInv s) (hstep : step s = .next t) : heldInv t := by
  intro hheld
  cases hreset : s.resetHeld with
  | true =>
    obtain ht | ⟨hreleased, -⟩ := step_of_held hreset (h hreset) hstep
    · exact ht
    · rw [hheld] at hreleased
      cases hreleased
  | false =>
    obtain ⟨c, rest, -, hexec⟩ | ⟨-, rfl⟩ | ⟨c, n, rfl⟩ := step_cases hstep
    · by_cases hpower : c = .powerOnReset
      · subst hpower
        cases hexec
        exact State.held_held _
      · rw [exec_resetHeld (s := { s with pending := rest }) hpower hreset hexec] at hheld
        cases hheld
    · rw [show s.tick.resetHeld = s.resetHeld from rfl, hreset] at hheld
      cases hheld
    · rw [show s.resetHeld = true from hheld] at hreset
      cases hreset

/-- Settles O8. -/
theorem heldResetKeepsItsValuesAndTakesNothing : Obligations.HeldResetKeepsItsValuesAndTakesNothing :=
  ⟨⟨fun _ => rfl, fun _ _ => step_keeps_heldInv⟩,
    fun _ _ hclosed hport hwhole hwell => exec_not_taken hclosed hport hwell hwhole⟩

end Sys2Proof.Machine
end

section
/-!
PROOFS. Every step keeps the invariants of `Sound`: the queue, the tick where nothing is due, and each command by its
own lemma. From it O55, O56, O59 and O60.
-/

namespace Sys2Proof.Machine

open Sys2Proof.Said

/-! ### The events that are left (R84, R98, R107) -/

theorem driveStartDue_iff (s : State) : driveStartDue s = true ↔ ∃ c start finish,
    s.stop.drive = .driving c start finish false ∧ reached start s.now = true := by
  unfold driveStartDue
  cases s.stop.drive with
  | released => simp
  | driving c start finish pulling => cases pulling <;> simp

theorem driveEndDue_iff (s : State) : driveEndDue s = true ↔ ∃ c start finish pulling,
    s.stop.drive = .driving c start finish pulling ∧ reached finish s.now = true := by
  unfold driveEndDue
  cases s.stop.drive with
  | released => simp
  | driving c start finish pulling => simp

/-- The line is pulled from the drive start on. -/
theorem Sound.startDrive {s : State} (hs : Sound s) (hdue : driveStartDue s = true) : Sound s.startDrive := by
  obtain ⟨c, start, finish, hdrive, hreached⟩ := (driveStartDue_iff s).1 hdue
  have hpulled : Sound { s with stop := { s.stop with drive := s.stop.drive.pull } } := by
    refine hs.withDrive _ fun c' start' finish' pulling' h => ?_
    obtain ⟨hfinish, hahead, hend, -, -⟩ := hs.drive c start finish false hdrive
    rw [hdrive] at h
    cases h
    exact ⟨hfinish, hahead, hend, fun _ => (reached_iff start s.now).1 hreached, nofun⟩
  unfold State.startDrive
  dsimp only
  split
  · next howed =>
    obtain ⟨⟨-, -, -, hoff⟩, -⟩ := hs.station
    exact hpulled.enterConfigFault (hoff howed)
  · exact hpulled

theorem Sound.endDrive {s : State} (hs : Sound s) : Sound { s with stop := { s.stop with drive := .released } } :=
  hs.withDrive _ nofun

theorem Sound.raiseBusFault {s : State} (hs : Sound s) (hdue : busFaultDue s = true) :
    Sound (({ s with stop := { s.stop with busFaultRaised := true } }).setFlag .busFault) := by
  have hon : s.ctrl.station.receiving = true := by
    unfold busFaultDue lowSince at hdue
    simp only [Bool.and_eq_true] at hdue
    exact hdue.2.1.1.1
  obtain ⟨hcontroller, hconfig, -, -, hsending, hmonitor, hquiesce⟩ := hs.station
  obtain ⟨-, -, -, -, -, -, hcancels⟩ := hs.request
  exact hs.of_station (stationInv_of_receiving hon hcontroller hconfig hsending hmonitor hquiesce) rfl rfl rfl rfl rfl
    rfl rfl hcancels rfl

/-- In LISTENING a frame on LINK is the own JOIN. -/
theorem stationInv.quiet_of_listening {s : State} (h : stationInv s) (hlistening : s.ctrl.station = .listening)
    (hjoin : s.onBus .join = false) : s.bus.transmit = .quiet := by
  obtain ⟨-, -, -, -, hsending, -⟩ := h
  have hslot : ∀ x, s.bus.transmit.frame = some x → False := fun x hx => by
    obtain ⟨-, hstation⟩ := hsending x hx
    unfold State.onBus at hjoin
    rw [hx] at hjoin
    rw [if_neg (by simpa using hjoin), hlistening] at hstation
    cases hstation
  cases htransmit : s.bus.transmit with
  | quiet => rfl
  | arbitrating x => exact absurd (congrArg Transmit.frame htransmit) (hslot x)
  | sending x => exact absurd (congrArg Transmit.frame htransmit) (hslot x)

theorem Sound.endJoinInterval {s : State} (hs : Sound s) (hlistening : s.ctrl.station = .listening) :
    Sound s.endJoinInterval := by
  unfold State.endJoinInterval
  split
  · have hon : s.ctrl.station.receiving = true := by rw [hlistening]; rfl
    obtain ⟨⟨hremembered, hend, -, howed⟩, hconfig, -, -, hsending, hmonitor, hquiesce⟩ := hs.station
    obtain ⟨-, -, -, -, -, -, hcancels⟩ := hs.request
    refine hs.of_station (stationInv_of_receiving hon ⟨hremembered, hend, fun hoff => ?_, howed⟩ hconfig hsending
      hmonitor hquiesce) rfl rfl rfl rfl rfl rfl rfl hcancels rfl
    rw [show _ = s.ctrl.station.receiving from rfl, hon] at hoff
    cases hoff
  · next hjoin => exact hs.enterActive hlistening (hs.station.quiet_of_listening hlistening (Bool.eq_false_iff.2 hjoin))

/-! ### The values of a reset (R81) -/

/-- A station with the values of R81 meets every invariant, with the reset held and right after its release. -/
theorem runInv_of_reset (s : State) (held : Bool) : runInv { s.held with resetHeld := held } := by
  have hlist : ({ s.held with resetHeld := held } : State).req.list = [] := rfl
  have htable : ({ s.held with resetHeld := held } : State).table = [] := rfl
  obtain ⟨htables, horder, hrecords⟩ := tableInv_of_nil htable
  refine ⟨fun hheld => ?_, ?_, ?_, ?_, ?_, ?_, nofun, outputInv_of_empty hlist rfl, channelInv_of_nil htable, htables,
    horder, hrecords, nofun⟩
  · have htrue : held = true := hheld
    rw [htrue]
    exact s.held_held
  · exact stationInv_of_withdrawn rfl ⟨rfl, rfl, rfl, rfl⟩ nofun
      ⟨⟨fun h => absurd h Bool.false_ne_true, fun h => absurd rfl h⟩, fun h => absurd rfl h⟩
      ⟨rfl, rfl, rfl, rfl, rfl, rfl, rfl, rfl⟩ ⟨fun _ => ⟨rfl, rfl⟩, nofun⟩
  · exact ⟨Nat.zero_le 8, Nat.zero_le 16, List.nodup_nil, nofun, Nat.zero_le 1, nofun, Nat.zero_le 2⟩
  · exact ⟨nofun, nofun, nofun, nofun, nofun, nofun⟩
  · exact ⟨nofun, nofun, nofun, nofun, nofun⟩
  · exact nofun

/-- Settles O60: the station after reset has the values of R81. -/
theorem resetMeetsEveryInvariant : Obligations.ResetMeetsEveryInvariant := runInv_of_reset State.reset false

/-- Settles O7. -/
theorem resetHoldsTheValuesOfR81 : Obligations.ResetHoldsTheValuesOfR81 := by
  intro s
  show (.next s.held : Out) = _
  unfold State.held
  cases s.port.transaction <;> rfl

/-! ### Every command -/

/-- Every command but POWER_ON_RESET keeps the invariants; those of slots, ties, start ticks and the own frame on
LINK are needed before it. -/
theorem Sound.exec {s t : State} (hs : Sound s) (hslot : slotInv s) (htie : tieInv s) (hpulses : pulsesInv s)
    (hflight : flightInv s) {c : Instr} (hpower : c ≠ .powerOnReset) (hstep : exec c s = .next t) : Sound t := by
  have harm := hstep
  unfold Machine.exec at harm
  cases c with
  | powerOnReset => exact absurd rfl hpower
  | resetRelease =>
    cases harm
    have hsame : { s with resetHeld := false } = s := by rw [← hs.running]
    rwa [hsame]
  | readState | readTime | readEvents | readConfig | readErrorRecord | readCounters | clearError | clearCounters =>
    exact hs.onPort (hs.of_core rfl) harm
  | readTable index =>
    refine hs.onPort ?_ harm
    split
    · exact hs.answer _ _
    · split <;> exact hs.answer _ _
  | readRoster id =>
    refine hs.onPort ?_ harm
    split <;> exact hs.answer _ _
  | fetchResult =>
    refine hs.onPort ?_ harm
    split
    · exact hs.answer _ _
    · exact hs.of_core rfl
  | query tag =>
    refine hs.onPort ?_ harm
    split <;> exact hs.answer _ _
  | submit tag cls notBefore deadline =>
    refine hs.onPort ?_ harm
    split
    · next hok => exact (hs.submit hok notBefore deadline).answer _ _
    · exact hs.answer _ _
  | cancel tag =>
    refine hs.onPort ?_ harm
    split
    · exact hs.answer _ _
    · next hr => exact (hs.cancelRequest hr).answer _ _
  | abort channel =>
    refine hs.onPort ?_ harm
    split
    · exact hs.answer _ _
    · split
      · exact hs.answer _ _
      · next he => exact (hs.pulseOver he .aborted).answer _ _
  | configure image =>
    refine hs.onPort ?_ harm
    split
    · next hoff => exact (hs.configure hoff image).answer _ _
    · exact hs.answer _ _
  | join =>
    refine hs.onPort ?_ harm
    split
    · exact hs.answer _ _
    · next hoff =>
      split
      · exact hs.answer _ _
      · next himage =>
        split
        · next hvalid => exact (hs.join (not_not.1 hoff) himage hvalid).answer _ _
        · exact hs.answer _ _
  | leave =>
    refine hs.onPort ?_ harm
    split
    · exact hs.answer _ _
    · exact hs.enterOffline.answer _ _
  | resume =>
    refine hs.onPort ?_ harm
    split
    · next hsilent => exact (hs.resume hsilent).answer _ _
    · exact hs.answer _ _
  | unknownCommand code =>
    have hport : Machine.onPort (fun s => s.answer .badParam []) s = .next t :=
      (if_pos (exec_unknownCommand_next hstep)).symm.trans hstep
    exact hs.onPort (hs.answer _ _) hport
  | transactionDiscarded received => rw [exec_transactionDiscarded_next hstep]; exact hs.of_core rfl
  | resultClockedOut => exact hs.onEvent (fun _ => hs.removePresented) harm
  | busSyncGained => exact hs.onEvent hs.gainSync harm
  | idleCount24 => exact hs.onEvent hs.clearDefer harm
  | attemptStart => exact hs.onEvent (fun _ => hs.attempt hslot) harm
  | arbitrationLost => exact hs.onEvent (fun _ => hs.loseArbitration) harm
  | readback => exact hs.onEvent (fun _ => hs.failReadback) harm
  | frameCompleted => exact hs.onEvent (hs.completeFrame hpulses hflight) harm
  | frameEndReceived => exact hs.onEvent (fun _ => hs.endReceived hpulses) harm
  | frameCheckFailed => exact hs.onEvent (fun _ => hs.failCheck) harm
  | driveStart => exact hs.onEvent hs.startDrive harm
  | driveEnd => exact hs.onEvent (fun _ => hs.endDrive) harm
  | stopFall =>
    refine hs.onEvent (fun hdue => hs.takeFall ?_) harm
    unfold fallDue at hdue
    simp only [Bool.and_eq_true] at hdue
    exact hdue.1.1.1
  | longClassification =>
    refine hs.onEvent (fun hdue => hs.classifyLong ?_) harm
    unfold longDue lowSince at hdue
    simp only [Bool.and_eq_true] at hdue
    exact hdue.2.1.1.1
  | stopRise =>
    refine hs.onEvent (fun hdue => hs.takeRise ?_) harm
    unfold riseDue at hdue
    simp only [Bool.and_eq_true, decide_eq_true_eq] at hdue
    exact hdue.1.1.1
  | quiesceEnd =>
    refine hs.onEvent (fun hdue => hs.endQuiesce ?_) harm
    unfold quiesceEndDue at hdue
    simp only [Bool.and_eq_true, decide_eq_true_eq] at hdue
    exact hdue.1
  | busFault => exact hs.onEvent hs.raiseBusFault harm
  | joinIntervalEnd =>
    refine hs.onEvent (fun hdue => hs.endJoinInterval ?_) harm
    unfold joinEndDue at hdue
    simp only [Bool.and_eq_true, decide_eq_true_eq] at hdue
    exact hdue.1.1
  | holdExpiry owner seq => exact hs.onEvent (fun _ => hs.expireHold owner seq) harm
  | retirement owner seq => exact hs.onEvent (fun _ => hs.filterTable _) harm
  | headToSending => exact hs.onEvent hs.moveHead harm
  | deadlineExpiry tag => exact hs.onEvent hs.expireDeadline harm
  | startTickReached tag => exact hs.startReached htie harm
  | channelEnd c => exact hs.onEvent (fun _ => hs.endChannel c) harm
  | startBit => exact hs.onEvent hs.startBit harm
  | arbitrationWon => exact hs.onEvent hs.winArbitration harm

/-! ### The tick, and the step -/

theorem stationInv.tick {s : State} (h : stationInv s) : stationInv s.tick := by
  obtain ⟨hcontroller, hconfig, hwithdrawn, hrequests, hsending, hmonitor, hquiesce⟩ := h
  refine ⟨hcontroller, hconfig, fun hoff => ?_, hrequests, fun x hx => ?_, hmonitor, hquiesce⟩
  · obtain ⟨hreceive, htransmit, hdefer, hstop, hslots⟩ := hwithdrawn hoff
    refine ⟨?_, htransmit, hdefer, ?_, hslots⟩
    · show (if s.ctrl.station.receiving then _ else s.bus.receive) = _
      rw [show s.ctrl.station.receiving = false from hoff]
      exact hreceive
    · show s.stop.tick = s.stop.tick.unobserved
      rw [hstop]
      rfl
  · obtain ⟨⟨cells, hreceive⟩, hstation⟩ := hsending x hx
    refine ⟨⟨cells ++ [s.bus.level], ?_⟩, hstation⟩
    have hon : s.ctrl.station.receiving = true := by
      rw [hstation]
      split <;> rfl
    show (if s.ctrl.station.receiving then s.bus.receive.sample s.bus.level else s.bus.receive) = _
    rw [hon, hreceive]
    rfl

theorem driveInv.tick {s : State} (h : driveInv s) (hrunning : s.resetHeld = false) (hstart : driveStartDue s = false)
    (hend : driveEndDue s = false) : driveInv s.tick := by
  intro c start finish pulling hdrive
  obtain ⟨hfinish, hahead, hbefore, hpulling, hwaiting⟩ := h c start finish pulling hdrive
  have hnow : s.tick.now = s.now + 1 := by rw [State.tick_now, hrunning]; rfl
  have hnotend : tickDiff s.now finish < 0 := by
    refine (not_reached_iff finish s.now).1 (Bool.eq_false_iff.2 fun hr => ?_)
    exact Bool.false_ne_true (hend.symm.trans ((driveEndDue_iff s).2 ⟨c, start, finish, pulling, hdrive, hr⟩))
  have hpulls : 0 ≤ tickDiff s.now start → pulling = true := fun hr => by
    by_contra hnot
    rw [Bool.not_eq_true] at hnot
    subst hnot
    exact Bool.false_ne_true (hstart.symm.trans
      ((driveStartDue_iff s).2 ⟨c, start, finish, hdrive, (reached_iff start s.now).2 hr⟩))
  have hticks : 1 ≤ c.ticks ∧ c.ticks ≤ 96 := by cases c <;> decide
  have hlasts : tickDiff finish start = c.ticks := hfinish ▸ tickDiff_plus start c.ticks (by omega)
  have hbounds := tickDiff_bounds s.now finish
  have hage : tickDiff s.now start = tickDiff s.now finish + c.ticks := by
    rw [← hlasts]
    exact tickDiff_chain _ _ _ (by omega) (by omega)
  have hahead' := tickDiff_swap s.now start (by omega)
  rw [hnow]
  refine ⟨hfinish, ?_, ?_, fun h => ?_, fun h => ?_⟩
  · rw [tickDiff_succ_right _ _ (by omega)]
    omega
  · rw [tickDiff_succ_left _ _ (by omega)]
    omega
  · rw [tickDiff_succ_left _ _ (by omega)]
    have := hpulling h
    omega
  · rw [tickDiff_succ_left _ _ (by omega)]
    have : ¬0 ≤ tickDiff s.now start := fun hr => Bool.false_ne_true (h.symm.trans (hpulls hr))
    omega

/-- A record that is neither retired nor past its hold at this tick lies within its spans at the next. -/
theorem Sound.tick_records {s : State} (hs : Sound s) (hhold : ∀ owner seq, holdDue owner seq s = false)
    (hretire : ∀ owner seq, retirementDue owner seq s = false) : orderInv s.tick ∧ recordInv s.tick := by
  obtain ⟨hascending, hspan⟩ := hs.order
  have hnow : s.tick.now = s.now + 1 := by rw [State.tick_now, hs.running]; rfl
  obtain ⟨hW, hH, hG, hD⟩ := s.params_bounds
  have hname : ∀ x : ClaimRecord, isRecord x.owner x.seq x = true := fun x => (isRecord_iff _ _ x).2 ⟨rfl, rfl⟩
  have hlive : ∀ x ∈ s.table, -(s.params.retireSpan : Int) < tickDiff x.start s.now := fun x hx => by
    have hnot : reached (retirePoint s.params x) s.now = false := Bool.eq_false_iff.2 fun hr =>
      Bool.false_ne_true ((hretire x.owner x.seq).symm.trans
        (List.any_eq_true.2 ⟨x, hx, Bool.and_eq_true_iff.2 ⟨hname x, hr⟩⟩))
    have hpast := (not_reached_iff _ _).1 hnot
    obtain ⟨hlow, hhigh⟩ := hspan x hx
    have hretireSpan : s.params.retireSpan < 2 ^ 20 := by unfold Params.retireSpan; omega
    have hswap := tickDiff_swap x.start s.now (by omega)
    have hchain := tickDiff_chain s.now x.start (retirePoint s.params x)
    rw [show tickDiff x.start (retirePoint s.params x) = _ from tickDiff_plus_right x.start _ (by omega)] at hchain
    have := hchain (by omega) (by omega)
    omega
  have hspans : s.params.retireSpan < 2 ^ 20 ∧ s.params.pendingSpan < 2 ^ 20 := by
    unfold Params.retireSpan Params.pendingSpan
    omega
  refine ⟨⟨hascending, fun x hx => ?_⟩, fun x hx => ?_⟩
  · have hx' := hlive x hx
    rw [hnow, tickDiff_succ_right _ _ (by omega)]
    have := (hspan x hx).2
    exact ⟨show -(s.params.retireSpan : Int) ≤ _ by omega, show _ ≤ (s.params.dMax : Int) by omega⟩
  · obtain ⟨hoffset, hcome, hpending⟩ := hs.record x hx
    have hx' := hlive x hx
    have hswap := tickDiff_swap x.start s.now (by omega)
    have hage := tickDiff_chain s.now x.start x.received
      (by have := (hspan x hx).2; omega) (by omega)
    rw [hnow, tickDiff_succ_left _ _ (by omega)]
    refine ⟨hoffset, by omega, fun hp => ?_⟩
    have hnot : reached (holdEnd s.params x) s.now = false := Bool.eq_false_iff.2 fun hr =>
      Bool.false_ne_true ((hhold x.owner x.seq).symm.trans (List.any_eq_true.2 ⟨x, hx, Bool.and_eq_true_iff.2
        ⟨Bool.and_eq_true_iff.2 ⟨hname x, decide_eq_true hp⟩, hr⟩⟩))
    have hpast := (not_reached_iff _ _).1 hnot
    have hchain := tickDiff_chain s.now x.received (holdEnd s.params x)
    rw [show tickDiff x.received (holdEnd s.params x) = _ from tickDiff_plus_right x.received _ (by omega)] at hchain
    have hpend := hpending hp
    have := hchain (by omega) (by omega)
    exact show _ ≤ (s.params.pendingSpan : Int) by omega

theorem Sound.tick {s : State} (hs : Sound s) (hquiet : dueEvents s = []) : Sound s.tick := by
  have hnot := not_isDue_of_nil hquiet
  obtain ⟨horder, hrecord⟩ := hs.tick_records (fun owner seq => hnot (.holdExpiry owner seq))
    (fun owner seq => hnot (.retirement owner seq))
  exact ⟨hs.running, hs.station.tick, hs.request, hs.output, hs.channel, hs.table, horder, hrecord,
    hs.drive.tick hs.running (hnot .driveStart) (hnot .driveEnd)⟩

/-- After a step from a run state the station meets the invariants of `Sound`, or has the values of a reset. -/
theorem step_sound {s t : State} (h : runInv s) (hstep : step s = .next t) :
    Sound t ∨ ∃ u held, t = { State.held u with resetHeld := held } := by
  have hinv := h
  obtain ⟨hheld, -, -, hslot, htie, hstart, hflight, -⟩ := hinv
  cases hreset : s.resetHeld with
  | true =>
    obtain ht | ⟨hreleased, ht⟩ := step_of_held hreset (hheld hreset) hstep
    · exact .inr ⟨t, true, ht.symm⟩
    · refine .inr ⟨t, false, ?_⟩
      rw [ht, ← hreleased]
  | false =>
    have hs := Sound.of_runInv hreset h
    obtain ⟨c, rest, -, hexec⟩ | ⟨hquiet, rfl⟩ | ⟨c, n, rfl⟩ := step_cases hstep
    · by_cases hpower : c = .powerOnReset
      · subst hpower
        cases hexec
        exact .inr ⟨_, true, rfl⟩
      · have hrest : Sound { s with pending := rest } := hs.of_core rfl
        exact .inl (hrest.exec hslot htie (startInv.pulses hstart) hflight hpower hexec)
    · exact .inl (hs.tick hquiet)
    · exact .inl (hs.of_core rfl)

/-- What `Sound` and the values of a reset have in common holds after a step. -/
theorem step_keeps {P : State → Prop} (hsound : ∀ t, Sound t → P t) (hrun : ∀ t, runInv t → P t) {s t : State}
    (h : runInv s) (hstep : step s = .next t) : P t := by
  obtain ht | ⟨u, held, rfl⟩ := step_sound h hstep
  · exact hsound t ht
  · exact hrun _ (runInv_of_reset u held)

/-- Where neither the start nor the end of the drive is due, the driver pulls the line exactly within the drive. -/
theorem stopDriver_eq_pullsStop {s : State} (hdrive : driveInv s) (hstart : driveStartDue s = false)
    (hend : driveEndDue s = false) : s.stopDriver = pullsStop s := by
  unfold State.stopDriver pullsStop
  cases h : s.stop.drive with
  | released => rfl
  | driving c start finish pulling =>
    obtain ⟨-, -, -, hpulling, -⟩ := hdrive c start finish pulling h
    simp only [driveStartDue, driveEndDue, h] at hstart hend
    have hbefore := (not_reached_iff _ _).1 hend
    cases pulling with
    | true => simp [hpulling rfl, hbefore]
    | false =>
      have hlater := (not_reached_iff start s.now).1 (by simpa using hstart)
      simp [hlater]

/-- Settles O55. -/
theorem everyStepKeepsTheStationStateInvariant : Obligations.EveryStepKeepsTheStationStateInvariant := by
  refine ⟨fun _ _ => step_keeps (fun _ h => h.station) fun _ ⟨_, hstation, _⟩ => hstation,
    fun _ _ => step_keeps (fun _ h => h.drive) fun _ ⟨_, _, _, _, _, _, _, _, _, _, _, _, hdrive⟩ => hdrive,
    fun s ⟨_, _, _, _, _, _, _, _, _, _, _, _, hdrive⟩ _ hquiet => ?_⟩
  exact stopDriver_eq_pullsStop hdrive (not_isDue_of_nil hquiet .driveStart) (not_isDue_of_nil hquiet .driveEnd)

/-- Settles O56. -/
theorem everyStepKeepsTheRequestInvariant : Obligations.EveryStepKeepsTheRequestInvariant :=
  fun _ _ => step_keeps (fun _ h => h.request) fun _ ⟨_, _, hrequest, _⟩ => hrequest

/-- Settles O59. -/
theorem everyStepKeepsTheTableInvariant : Obligations.EveryStepKeepsTheTableInvariant :=
  ⟨fun _ _ => step_keeps (fun _ h => h.table) fun _ ⟨_, _, _, _, _, _, _, _, _, htable, _⟩ => htable,
    fun _ _ => step_keeps (fun _ h => h.order) fun _ ⟨_, _, _, _, _, _, _, _, _, _, horder, _⟩ => horder,
    fun _ _ => step_keeps (fun _ h => h.record) fun _ ⟨_, _, _, _, _, _, _, _, _, _, _, hrecord, _⟩ => hrecord⟩

end Sys2Proof.Machine
end

section
/-!
PROOFS. Where a step stops (O6), and the outputs: a start finds its channel idle or at its end tick, and a pin is high
exactly within the pulse of a claim (O58).
-/

namespace Sys2Proof.Machine

open Sys2Proof.Said

/-! ### Faults and refusals (R155, R164, R165) -/

theorem startDue_iff (tag : Byte) (s : State) : startDue tag s = true ↔ ∃ r t, s.request tag = some r
    ∧ r.start = some t ∧ reached t s.now = true
    ∧ (r.state = .granted ∨ r.state = .cancelling ∧ s.onBus (.cancel tag) = false) := by
  unfold startDue
  constructor
  · intro h
    obtain ⟨r, hr, h⟩ := (Option.any_eq_true _ _).1 h
    simp only [Bool.and_eq_true, Option.any_eq_true, Bool.or_eq_true, decide_eq_true_eq, Bool.not_eq_true'] at h
    obtain ⟨⟨t, ht, hreached⟩, hstate⟩ := h
    exact ⟨r, t, hr, ht, hreached, hstate⟩
  · rintro ⟨r, t, hr, ht, hreached, hstate⟩
    rw [hr, Option.any_some, ht, Option.any_some, hreached]
    simpa using hstate

/-- A start is handed to its channel, or the request that waits to be cancelled ends, or nothing is due. -/
theorem execStartTickReached_cases (tag : Byte) (s : State) :
    (startDue tag s = false ∧ execStartTickReached tag s = .next s)
    ∨ (∃ r, startDue tag s = true ∧ s.request tag = some r ∧ r.state = .granted
        ∧ execStartTickReached tag s = s.fire r)
    ∨ (∃ r, startDue tag s = true ∧ s.request tag = some r ∧ r.state ≠ .granted
        ∧ execStartTickReached tag s = .next (s.leaveRequest tag .cancelled .none)) := by
  unfold execStartTickReached
  cases hdue : startDue tag s with
  | false => exact .inl ⟨rfl, if_neg Bool.false_ne_true⟩
  | true =>
    rw [if_pos rfl]
    obtain ⟨r, -, hr, -⟩ := (startDue_iff tag s).1 hdue
    rw [hr]
    by_cases hgranted : r.state = .granted
    · exact .inr (.inl ⟨r, rfl, rfl, hgranted, if_pos hgranted⟩)
    · exact .inr (.inr ⟨r, rfl, rfl, hgranted, if_neg hgranted⟩)

/-- A start stops only at a channel whose entry has not reached its end tick. -/
theorem State.fire_stops {s : State} {r : Request} :
    (∀ f, s.fire r = .fault f → ∃ e, s.channel (s.channelOf r.cls) = some e ∧ reached e.endTick s.now = false)
    ∧ ∀ f, s.fire r ≠ .refused f := by
  unfold State.fire
  split
  · exact ⟨nofun, nofun⟩
  · next e he =>
    split
    · exact ⟨nofun, nofun⟩
    · next hnot => exact ⟨fun _ _ => ⟨e, he, Bool.eq_false_iff.2 hnot⟩, nofun⟩

/-- A command that is no start tick goes on, but for a term that no transaction spells. -/
theorem exec_next_or_illFormed {c : Instr} (s : State) (hstart : ∀ tag, c ≠ .startTickReached tag) :
    (∃ t, exec c s = .next t) ∨ c.wellFormed = false ∧ exec c s = .refused .illFormed := by
  by_cases hport : (portEncode c).isSome = true
  · by_cases hwhole : ∃ received, c = .transactionDiscarded received
    · obtain ⟨received, rfl⟩ := hwhole
      show (∃ t, execTransactionDiscarded received s = .next t) ∨ _ ∧ execTransactionDiscarded received s = _
      unfold execTransactionDiscarded
      split
      · exact .inl ⟨_, rfl⟩
      · next hill => exact .inr ⟨Bool.eq_false_iff.2 hill, rfl⟩
    · by_cases hunknown : ∃ code, c = .unknownCommand code
      · obtain ⟨code, rfl⟩ := hunknown
        show (∃ t, execUnknownCommand code s = .next t) ∨ _ ∧ execUnknownCommand code s = _
        unfold execUnknownCommand
        split
        · exact .inl ⟨_, rfl⟩
        · next hill => exact .inr ⟨Bool.eq_false_iff.2 hill, rfl⟩
      · have hwell : c.wellFormed = true := by
          cases c with
          | transactionDiscarded received => exact absurd ⟨_, rfl⟩ hwhole
          | unknownCommand code => exact absurd ⟨_, rfl⟩ hunknown
          | _ => rfl
        obtain ⟨f, hf⟩ := exec_eq_onPort hport hwell (not_exists.1 hwhole)
        exact .inl ⟨_, hf s⟩
  · by_cases hpower : c = .powerOnReset
    · exact .inl ⟨_, by rw [hpower]; rfl⟩
    · by_cases hrelease : c = .resetRelease
      · exact .inl ⟨_, by rw [hrelease]; rfl⟩
      · by_cases hclocked : c = .resultClockedOut
        · exact .inl ⟨_, by rw [hclocked]; rfl⟩
        · obtain ⟨f, hf⟩ := exec_eq_onEvent (by simpa using hport) hpower hrelease hclocked hstart
          exact .inl ⟨_, hf s⟩

/-- A fault comes from a start that is due on a held channel. -/
theorem exec_fault {c : Instr} {s : State} {f : Fault} (h : exec c s = .fault f) : ∃ tag r e,
    c = .startTickReached tag ∧ startDue tag s = true ∧ s.request tag = some r ∧ r.state = .granted
      ∧ s.channel (s.channelOf r.cls) = some e ∧ reached e.endTick s.now = false := by
  by_cases hstart : ∃ tag, c = .startTickReached tag
  · obtain ⟨tag, rfl⟩ := hstart
    have hcases : execStartTickReached tag s = .fault f := h
    obtain ⟨-, heq⟩ | ⟨r, hdue, hr, hgranted, heq⟩ | ⟨r, -, -, -, heq⟩ := execStartTickReached_cases tag s
    · rw [heq] at hcases; cases hcases
    · rw [heq] at hcases
      obtain ⟨e, he, hnot⟩ := State.fire_stops.1 f hcases
      exact ⟨tag, r, e, rfl, hdue, hr, hgranted, he, hnot⟩
    · rw [heq] at hcases; cases hcases
  · obtain ⟨t, heq⟩ | ⟨-, heq⟩ := exec_next_or_illFormed s (not_exists.1 hstart) <;> rw [heq] at h <;> cases h

theorem exec_refused {c : Instr} {s : State} {f : Refusal} (h : exec c s = .refused f) : c.wellFormed = false := by
  by_cases hstart : ∃ tag, c = .startTickReached tag
  · obtain ⟨tag, rfl⟩ := hstart
    have hcases : execStartTickReached tag s = .refused f := h
    obtain ⟨-, heq⟩ | ⟨r, -, -, -, heq⟩ | ⟨r, -, -, -, heq⟩ := execStartTickReached_cases tag s
    · rw [heq] at hcases; cases hcases
    · rw [heq] at hcases
      exact absurd hcases (State.fire_stops.2 f)
    · rw [heq] at hcases; cases hcases
  · obtain ⟨t, heq⟩ | ⟨hill, -⟩ := exec_next_or_illFormed s (not_exists.1 hstart)
    · rw [heq] at h; cases h
    · exact hill

/-- Settles O6. -/
theorem onlyFaultIsAStartOnAHeldChannel : Obligations.OnlyFaultIsAStartOnAHeldChannel := by
  refine fun c s => ⟨fun f h => ?_, fun f h => exec_refused h⟩
  obtain ⟨tag, r, e, hc, -, hr, hgranted, he, hnot⟩ := exec_fault h
  exact ⟨tag, r, e, hc, hr, hgranted, he, hnot⟩

/-! ### Starts (R15, R140, R154) -/

/-- Two stretches that lie apart share no tick. -/
theorem disjoint_of_apart {t u : Tick} {d e : Nat} (hd : d ≤ 2 ^ 30) (he : e ≤ 2 ^ 30) (h : apart t d u e) :
    disjoint t d u e := by
  intro k hk j hj heq
  have hdiff := tickDiff_chain u (plus u j) t
  rw [tickDiff_plus_right u j (by omega), show plus u j = plus t k from heq.symm, tickDiff_plus t k (by omega)] at hdiff
  have := hdiff (by omega) (by omega)
  unfold apart at h
  omega

/-- A GRANTED request whose start is reached is at its start tick (R140). -/
theorem startInv.granted_now {s : State} (h : startInv s) {r : Request} (hr : r ∈ s.req.list)
    (hgranted : r.state = .granted) {t : Tick} (ht : r.start = some t) (hreached : reached t s.now = true) :
    t = s.now := by
  have hahead := (h r hr t ht).1 hgranted
  have hcome := (reached_iff t s.now).1 hreached
  refine tickDiff_eq_zero ?_
  rw [tickDiff_swap t s.now (by omega)] at hcome
  omega

section RunState

variable {s : State} (hstation : stationInv s) (hrequest : requestInv s) (htie : tieInv s) (hstart : startInv s)
  (houtput : outputInv s) (hchannel : channelInv s)
include hrequest htie houtput hchannel

/-- The pulses of two GRANTED or FIRING requests on one channel lie apart (R154). -/
theorem apart_of_channel {q r : Request} (hq : q ∈ s.req.list) (hr : r ∈ s.req.list) (hne : q.tag ≠ r.tag)
    (hsame : s.channelOf q.cls = s.channelOf r.cls) (hqs : q.state = .granted ∨ q.state = .firing)
    (hrs : r.state = .granted ∨ r.state = .firing) {t u : Tick} (ht : q.start = some t) (hu : r.start = some u) :
    apart t (s.classOf q.cls).duration u (s.classOf r.cls).duration := by
  obtain ⟨-, -, htags, -⟩ := hrequest
  obtain ⟨hrecords, hfirings⟩ := hchannel
  have hfiring : ∀ q ∈ s.req.list, ∀ r ∈ s.req.list, q.tag ≠ r.tag → s.channelOf q.cls = s.channelOf r.cls →
      q.state = .firing → r.state = .granted → ∀ t u, q.start = some t → r.start = some u →
      apart t (s.classOf q.cls).duration u (s.classOf r.cls).duration := by
    intro q hq r hr hne hsame hf hg t u ht hu
    obtain ⟨y, hy, hown, htag, hcls, hystart, -⟩ := htie.granted_record htags hr hg
    have h := hfirings q hq hf t ht y hy hown (by rw [htag]; exact fun h => hne (Option.some.inj h).symm)
      (by rw [hcls]; exact hsame.symm)
    rw [hu] at hystart
    cases hystart
    rwa [hcls] at h
  obtain hqg | hqf := hqs <;> obtain hrg | hrf := hrs
  · obtain ⟨x, hx, hxown, hxtag, hxcls, hxstart, -⟩ := htie.granted_record htags hq hqg
    obtain ⟨y, hy, hyown, hytag, hycls, hystart, -⟩ := htie.granted_record htags hr hrg
    have hsymm : Std.Symm fun x y : ClaimRecord => x.owner = s.ownId → y.owner = s.ownId →
        s.channelOf x.cls = s.channelOf y.cls →
        apart x.start (s.classOf x.cls).duration y.start (s.classOf y.cls).duration :=
      ⟨fun a b hab hb ha hba => apart_symm ((s.duration_lt _).trans (by omega)) (hab ha hb hba.symm)⟩
    have hxy : x ≠ y := fun h => by
      rw [h, hytag] at hxtag
      exact hne (Option.some.inj hxtag).symm
    have h := hrecords.forall hx hy hxy hxown hyown (by rw [hxcls, hycls]; exact hsame)
    rw [ht] at hxstart
    rw [hu] at hystart
    cases hxstart
    cases hystart
    rwa [hxcls, hycls] at h
  · exact apart_symm ((s.duration_lt _).trans (by omega)) (hfiring r hr q hq hne.symm hsame.symm hrf hqg u t hu ht)
  · exact hfiring q hq r hr hne hsame hqf hrg t u ht hu
  · obtain ⟨t', -, hqe⟩ := houtput.1 q hq hqf
    obtain ⟨u', -, hre⟩ := houtput.1 r hr hrf
    rw [hsame, hre] at hqe
    exact absurd (congrArg ChannelEntry.tag (Option.some.inj hqe)).symm hne

include hstation hstart

/-- A start that is due finds its channel idle or at its end tick (R155). -/
theorem held_channel_ended {tag : Byte} (hdue : startDue tag s = true) {r : Request} (hr : s.request tag = some r)
    (hgranted : r.state = .granted) {e : ChannelEntry} (he : s.channel (s.channelOf r.cls) = some e) :
    reached e.endTick s.now = true := by
  obtain ⟨hlisted, -⟩ := s.mem_of_request tag r hr
  obtain ⟨r', t, hr', ht, hreached, -⟩ := (startDue_iff tag s).1 hdue
  rw [hr] at hr'
  cases hr'
  have hnow := hstart.granted_now hlisted hgranted ht hreached
  obtain ⟨q, hq, hqf, hqchannel, u, hu, rfl⟩ := houtput.2 _ e he
  have hne : q.tag ≠ r.tag := fun h => by
    obtain ⟨-, -, htags, -⟩ := hrequest
    rw [eq_of_tag_eq _ htags q r hq hlisted h, hgranted] at hqf
    cases hqf
  have hapart := apart_of_channel hrequest htie houtput hchannel hq hlisted hne hqchannel (.inr hqf) (.inl hgranted)
    hu ht
  obtain ⟨hcome, hwithin⟩ := (hstart q hq u hu).2.2 hqf
  have hduration : 1 ≤ (s.classOf r.cls).duration := by
    obtain ⟨-, hconfig, -, hrequests, -⟩ := hstation
    have hon : s.ctrl.station ≠ .offline := fun hoff => by
      rw [(hrequests.1 (.inl hoff)).1] at hlisted
      cases hlisted
    obtain ⟨-, hvalid⟩ := hconfig.outside hon
    obtain ⟨img, himage, hvalid⟩ := (Option.any_eq_true _ _).1 hvalid
    obtain ⟨-, -, -, henabled, -⟩ := htie
    have hclass := henabled r hlisted
    simp only [State.classOf, State.image, himage, Option.getD_some] at hclass ⊢
    exact validImage_duration hvalid r.cls hclass
  have hlt := s.duration_lt q.cls
  refine (reached_iff _ _).2 (show 0 ≤ tickDiff s.now (plus u (s.classOf q.cls).duration) from ?_)
  rw [hnow] at hapart
  have hchain := tickDiff_chain s.now u (plus u (s.classOf q.cls).duration)
  rw [tickDiff_plus_right _ _ (by omega)] at hchain
  have := hchain (by omega) (by omega)
  unfold apart at hapart
  omega

end RunState

/-- In a run state with well-formed commands waiting the step goes on (R155). -/
theorem runInv.goesOn {s : State} (h : runInv s) (hwell : ∀ c rest, s.pending = c :: rest → c.wellFormed = true) :
    goesOn s := by
  obtain ⟨-, hstation, hrequest, -, htie, hstart, -, houtput, hchannel, -⟩ := h
  cases hpending : s.pending with
  | nil => exact ⟨s.idle, step_of_nil hpending⟩
  | cons c rest =>
    unfold Machine.goesOn
    rw [step_of_cons hpending]
    cases hexec : exec c { s with pending := rest } with
    | next t => exact ⟨t, rfl⟩
    | refused f =>
      have hill := exec_refused hexec
      rw [hwell c rest hpending] at hill
      cases hill
    | fault f =>
      obtain ⟨tag, r, e, -, hdue, hr, hgranted, he, hnot⟩ := exec_fault hexec
      have hended := held_channel_ended (s := { s with pending := rest }) hstation hrequest htie hstart houtput
        hchannel hdue hr hgranted he
      rw [hended] at hnot
      cases hnot

/-- Where no start tick and no channel end is due, a pin is high exactly within the pulse of a GRANTED or FIRING
request of the channel (R153 to R156). -/
theorem outPin_iff {s : State} (hrequest : requestInv s) (hstart : startInv s) (houtput : outputInv s)
    (hstarts : ∀ tag, startDue tag s = false) (hends : ∀ c, channelEndDue c s = false) (c : Channel) :
    s.outPin c = true ↔ ∃ r ∈ s.req.list, ∃ t, (r.state = .granted ∨ r.state = .firing) ∧ s.channelOf r.cls = c
      ∧ r.start = some t ∧ 0 ≤ tickDiff s.now t ∧ tickDiff s.now t < (s.classOf r.cls).duration := by
  unfold State.outPin
  constructor
  · intro hbusy
    obtain ⟨e, he⟩ := Option.isSome_iff_exists.1 hbusy
    obtain ⟨r, hr, hf, hc, t, ht, rfl⟩ := houtput.2 c e he
    obtain ⟨hcome, hwithin⟩ := (hstart r hr t ht).2.2 hf
    refine ⟨r, hr, t, .inr hf, hc, ht, hcome, ?_⟩
    have hnot : reached (entryOf s r t).endTick s.now = false := by
      have := hends c
      rwa [channelEndDue, he, Option.any_some] at this
    have hpast := (not_reached_iff _ _).1 hnot
    have hlt := s.duration_lt r.cls
    have hchain := tickDiff_chain s.now t (entryOf s r t).endTick
    rw [show tickDiff t (entryOf s r t).endTick = _ from tickDiff_plus_right t _ (by omega)] at hchain
    have := hchain (by omega) (by omega)
    omega
  · rintro ⟨r, hr, t, hgranted | hf, rfl, ht, hcome, -⟩
    · obtain ⟨-, -, htags, -⟩ := hrequest
      have hdue : startDue r.tag s = true := (startDue_iff r.tag s).2
        ⟨r, t, s.request_eq_some r hr htags, ht, (reached_iff t s.now).2 hcome, .inl hgranted⟩
      rw [hstarts r.tag] at hdue
      cases hdue
    · obtain ⟨t', -, he⟩ := houtput.1 r hr hf
      rw [he]
      rfl

/-- Settles O58. -/
theorem everyStepKeepsTheOutputInvariant : Obligations.EveryStepKeepsTheOutputInvariant := by
  refine ⟨fun _ _ => step_keeps (fun _ h => h.output) fun _ ⟨_, _, _, _, _, _, _, houtput, _⟩ => houtput,
    fun _ _ => step_keeps (fun _ h => h.channel) fun _ ⟨_, _, _, _, _, _, _, _, hchannel, _⟩ => hchannel,
    fun s h => ?_, fun s h => h.goesOn, fun s h _ hquiet => ?_⟩
  · obtain ⟨-, -, hrequest, -, htie, hstart, -, houtput, hchannel, -⟩ := h
    refine ⟨fun r hr t hgranted ht hreached => ⟨hstart.granted_now hr hgranted ht hreached, ?_⟩,
      fun q hq r hr hne hsame hqs hrs t u ht hu => ?_⟩
    · obtain ⟨-, -, htags, -⟩ := hrequest
      obtain ⟨y, hy, hown, htag, -, hystart, hconfirmed⟩ := htie.granted_record htags hr hgranted
      rw [ht] at hystart
      exact ⟨y, hy, hown, htag, hconfirmed, (Option.some.inj hystart).symm⟩
    · have hq' := s.duration_lt q.cls
      have hr' := s.duration_lt r.cls
      exact disjoint_of_apart (by omega) (by omega)
        (apart_of_channel hrequest htie houtput hchannel hq hr hne hsame hqs hrs ht hu)
  · obtain ⟨-, -, hrequest, -, -, hstart, -, houtput, -⟩ := h
    exact outPin_iff hrequest hstart houtput (fun tag => not_isDue_of_nil hquiet (.startTickReached tag))
      (fun c => not_isDue_of_nil hquiet (.channelEnd c))

end Sys2Proof.Machine
end

section
/-!
PROOFS. The quiet tick (O2), and the condition of each event written out (O5).
-/

namespace Sys2Proof.Machine

open Sys2Proof.Said

/-! ### The quiet tick -/

theorem linkDriver_eq (b : BusInterface) : linkDriver b = b.driver := by
  unfold linkDriver BusInterface.driver
  cases b.transmit <;> cases b.receive <;> rfl

/-- Settles O2. -/
theorem quietTickAdvancesTimeAndOneCell : Obligations.QuietTickAdvancesTimeAndOneCell := by
  intro s hempty hquiet
  have hidle : s.idle = s.tick := by
    obtain ⟨-, h⟩ | ⟨c, n, hc, -⟩ := s.idle_cases
    · exact h
    · rw [hquiet] at hc
      cases hc
  rw [step_of_nil hempty, hidle]
  dsimp only
  rw [linkDriver_eq]
  unfold State.tick BusInterface.tick StopMonitor.tick LocalPort.tick Transaction.tick BusInterface.level
  cases s.bus.receive <;> cases s.port.transaction <;> cases s.port.selects.headD false <;> rfl

/-! ### The conditions of the events on LINK (R45 to R54, R61, R62) -/

theorem receiving_iff (st : StationState) : st.receiving = true ↔ st = .listening ∨ st = .active ∨ st = .quiesce := by
  cases st <;> simp [StationState.receiving]

theorem Transmit.frame_eq_some_iff (x : Transmit) (y : Sending) :
    x.frame = some y ↔ x = .arbitrating y ∨ x = .sending y := by
  cases x <;> simp [Transmit.frame]

theorem Transmit.frame_eq_none_iff (x : Transmit) : x.frame.isNone = true ↔ x = .quiet := by
  cases x <;> simp [Transmit.frame]

theorem onBus_iff (s : State) (slot : SlotRef) : s.onBus slot = true
    ↔ ∃ x, s.bus.transmit.frame = some x ∧ x.slot = slot := by
  unfold State.onBus
  cases s.bus.transmit.frame <;> simp

theorem syncDue_iff (s : State) : syncDue s = true
    ↔ s.ctrl.station.receiving = true ∧ ∃ n, s.bus.receive = .unsynchronised n ∧ 24 ≤ n := by
  unfold syncDue
  cases s.bus.receive <;> simp

theorem longIdle_iff (x : Receive) : x.longIdle = true ↔ ∃ n, x = .outOfFrame n ∧ 24 ≤ n := by
  unfold Receive.longIdle
  cases x <;> simp

theorem startBitDue_iff (s : State) : startBitDue s = true
    ↔ s.bus.lastCell = false ∧ ∃ n, s.bus.receive = .outOfFrame n := by
  unfold startBitDue
  cases s.bus.receive <;> simp

theorem stopIsLow_eq (s : State) : stopIsLow s = s.stopLow := by
  unfold stopIsLow State.stopLow
  refine congrArg (· || _) ?_
  unfold pullsStop State.ownLow
  cases s.stop.drive with
  | released => rfl
  | driving c start finish pulling =>
    show _ = (reached start s.now && !decide (0 ≤ tickDiff s.now finish))
    rw [← decide_not, reached]
    simp only [not_le]

theorem find_late_isSome_iff (l : List CancelSlot) : (l.find? (fun c => !c.late)).isSome = true
    ↔ ∃ c ∈ l, c.late = false := by simp

/-- What the slots offer at an idle count (R47, R53, R150). -/
theorem offer_isSome_iff (s : State) (idle : Nat) : (offer s idle).isSome = true ↔ 8 ≤ idle
    ∧ (s.ctrl.station = .active ∧ ((∃ c ∈ s.req.cancelSlots, c.late = false)
        ∨ s.req.claimSlot ≠ none ∧ (s.bus.defer = true → 24 ≤ idle))
      ∨ s.ctrl.station = .listening ∧ s.req.joinSlot = true) := by
  unfold offer
  by_cases hidle : idle < 8
  · rw [if_pos hidle]
    simp only [Option.isSome_none, Bool.false_eq_true, false_iff]
    omega
  · rw [if_neg hidle, and_iff_right (by omega), ← find_late_isSome_iff]
    cases s.ctrl.station with
    | active =>
      cases s.req.cancelSlots.find? (fun c => !c.late) with
      | some c => simp
      | none =>
        cases s.req.claimSlot with
        | none => simp
        | some g => cases s.bus.defer <;> simp
    | listening => cases s.req.joinSlot <;> simp
    | offline | quiesce | silent | configFault => simp

/-- At a cell boundary where the line is free the slots make their offer, and no frame is offered elsewhere. -/
theorem offered_of_boundary {s : State} {idle : Nat} (h : boundary s idle) : offered s = offer s idle := by
  obtain ⟨hreceive, -, hlast, hattempted, hquiet, hline, hstop⟩ := h
  rw [stopIsLow_eq] at hstop
  simp [offered, hreceive, hlast, hattempted, hquiet, hline, hstop, Transmit.frame]

theorem offered_isSome_iff (s : State) : (offered s).isSome = true
    ↔ ∃ n, boundary s n ∧ (offer s n).isSome = true := by
  constructor
  · intro h
    unfold offered at h
    split at h
    · next idle hreceive =>
      split at h
      · next hfree =>
        simp only [Bool.and_eq_true, Bool.not_eq_true', Transmit.frame_eq_none_iff] at hfree
        obtain ⟨⟨⟨⟨hlast, hattempted⟩, hline⟩, hstop⟩, hquiet⟩ := hfree
        refine ⟨idle, ⟨hreceive, ((offer_isSome_iff s idle).1 h).1, hlast, hattempted, hquiet, hline, ?_⟩, h⟩
        rwa [stopIsLow_eq]
      · cases h
    · cases h
    · cases h
  · rintro ⟨n, hboundary, h⟩
    rwa [offered_of_boundary hboundary]

theorem lastExchange_eq_some_iff (x : Sending) (cells : List Cell) (a b : Cell) : lastExchange x cells = some (a, b)
    ↔ cells.getLast? = some b ∧ x.frame.cells[cells.length - 1]? = some a := by
  unfold lastExchange
  cases cells.getLast? <;> cases x.frame.cells[cells.length - 1]? <;> simp [and_comm]

theorem lossDue_iff (s : State) : lossDue s = true ↔ ∃ x cells, s.bus.transmit = .arbitrating x
    ∧ s.bus.receive = .inFrame cells ∧ cells.getLast? = some false
    ∧ x.frame.cells[cells.length - 1]? = some true := by
  unfold lossDue
  split
  · next x cells hx hcells => simp [hx, hcells, lastExchange_eq_some_iff]
  · next hnot => exact ⟨nofun, fun ⟨x, cells, hx, hcells, _⟩ => absurd hcells (hnot x cells hx)⟩

theorem wonDue_iff (s : State) : wonDue s = true ↔ ∃ x cells, s.bus.transmit = .arbitrating x
    ∧ s.bus.receive = .inFrame cells ∧ 8 ≤ cells.length ∧ cells.take 8 = x.frame.cells.take 8 := by
  unfold wonDue
  split
  · next x cells hx hcells =>
    simp only [Bool.and_eq_true, decide_eq_true_eq, beq_iff_eq]
    simp [hx, hcells, arbitrationCells]
  · next hnot => exact ⟨nofun, fun ⟨x, cells, hx, hcells, _⟩ => absurd hcells (hnot x cells hx)⟩

theorem readbackDue_iff (s : State) : readbackDue s = true ↔ ∃ x cells, ∃ sentCell readCell : Cell,
    s.bus.receive = .inFrame cells ∧ cells.getLast? = some readCell
      ∧ x.frame.cells[cells.length - 1]? = some sentCell
      ∧ (s.bus.transmit = .sending x ∧ sentCell ≠ readCell
        ∨ s.bus.transmit = .arbitrating x ∧ sentCell = false ∧ readCell = true) := by
  unfold readbackDue
  split
  · next x cells hx hcells =>
    simp only [beq_iff_eq, lastExchange_eq_some_iff]
    constructor
    · rintro ⟨hread, hsent⟩
      exact ⟨x, cells, false, true, hcells, hread, hsent, .inr ⟨hx, rfl, rfl⟩⟩
    · rintro ⟨y, cells', a, b, hcells', hread, hsent, ⟨hy, -⟩ | ⟨hy, rfl, rfl⟩⟩
      · rw [hx] at hy; cases hy
      · rw [hx] at hy; rw [hcells] at hcells'; cases hy; cases hcells'; exact ⟨hread, hsent⟩
  · next x cells hx hcells =>
    constructor
    · intro h
      split at h
      · next a b hexchange =>
        obtain ⟨hread, hsent⟩ := (lastExchange_eq_some_iff x cells a b).1 hexchange
        exact ⟨x, cells, a, b, hcells, hread, hsent, .inl ⟨hx, by simpa using h⟩⟩
      · cases h
    · rintro ⟨y, cells', a, b, hcells', hread, hsent, ⟨hy, hne⟩ | ⟨hy, rfl, rfl⟩⟩
      · rw [hx] at hy; rw [hcells] at hcells'; cases hy; cases hcells'
        rw [(lastExchange_eq_some_iff x cells a b).2 ⟨hread, hsent⟩]
        simpa using hne
      · rw [hx] at hy; cases hy
  · next harb hsend =>
    refine ⟨nofun, fun ⟨x, cells, a, b, hcells, _, _, h⟩ => ?_⟩
    obtain ⟨hx, -⟩ | ⟨hx, -⟩ := h
    · exact absurd hcells (hsend x cells hx)
    · exact absurd hcells (harb x cells hx)

/-- The Frame Checker looks at the cells that a receiving station decodes while it sends nothing. -/
theorem received_eq_iff (s : State) (x : CellCheck) (hx : x ≠ .incomplete) : received s = x
    ↔ s.ctrl.station.receiving = true ∧ s.bus.transmit = .quiet
      ∧ ∃ cells, s.bus.receive = .inFrame cells ∧ checkCells cells = x := by
  unfold received
  split
  · next cells hquiet hcells =>
    cases s.ctrl.station.receiving <;> simp [hquiet, hcells, hx.symm]
  · next hnot =>
    exact ⟨fun h => absurd h.symm hx, fun ⟨_, hquiet, cells, hcells, _⟩ => absurd hcells (hnot cells hquiet)⟩

theorem frameEndDue_iff (s : State) : frameEndDue s = true ↔ ∃ f, received s = .complete f := by
  unfold frameEndDue
  cases received s <;> simp

theorem checkFailedDue_iff (s : State) : checkFailedDue s = true ↔ ∃ d, received s = .failed d := by
  unfold checkFailedDue
  cases received s <;> simp

/-! ### The conditions of the events on STOP_N and of the timed events (R84, R98 to R107, R28, R29, R132, R139) -/

theorem lowSince_iff (s : State) (n : Nat) : lowSince s n = true ↔ s.ctrl.station.receiving = true
    ∧ s.stop.lineLow = true ∧ s.stopLow = true
    ∧ ∃ f, s.stop.fallTick = some f ∧ 0 ≤ tickDiff s.now (plus f n) := by
  simp only [lowSince, Bool.and_eq_true, Option.any_eq_true, reached_iff, and_assoc]

theorem find_isSome_iff {α : Type} (p : α → Bool) (l : List α) : (l.find? p).isSome = true ↔ ∃ x ∈ l, p x = true := by
  simp

/-- Each event is due exactly where its condition holds. -/
theorem isDue_iff_happens (c : Instr) (s : State) : isDue s c = true ↔ happens s c := by
  cases c with
  | busSyncGained => exact syncDue_iff s
  | idleCount24 => exact Bool.and_eq_true_iff.trans (and_congr_right' (longIdle_iff _))
  | startBit => exact startBitDue_iff s
  | attemptStart =>
    refine (offered_isSome_iff s).trans (exists_congr fun n => and_congr_right fun hboundary => ?_)
    exact (offer_isSome_iff s n).trans (and_iff_right hboundary.2.1)
  | arbitrationLost => exact lossDue_iff s
  | arbitrationWon => exact wonDue_iff s
  | readback => exact readbackDue_iff s
  | frameCompleted => exact completedDue_iff s
  | frameEndReceived =>
    refine (frameEndDue_iff s).trans ⟨fun ⟨f, h⟩ => ?_, fun ⟨hon, hquiet, cells, f, hcells, h⟩ => ?_⟩
    · obtain ⟨hon, hquiet, cells, hcells, h⟩ := (received_eq_iff s (.complete f) nofun).1 h
      exact ⟨hon, hquiet, cells, f, hcells, h⟩
    · exact ⟨f, (received_eq_iff s (.complete f) nofun).2 ⟨hon, hquiet, cells, hcells, h⟩⟩
  | frameCheckFailed =>
    refine (checkFailedDue_iff s).trans ⟨fun ⟨d, h⟩ => ?_, fun ⟨hon, hquiet, cells, d, hcells, h⟩ => ?_⟩
    · obtain ⟨hon, hquiet, cells, hcells, h⟩ := (received_eq_iff s (.failed d) nofun).1 h
      exact ⟨hon, hquiet, cells, d, hcells, h⟩
    · exact ⟨d, (received_eq_iff s (.failed d) nofun).2 ⟨hon, hquiet, cells, hcells, h⟩⟩
  | driveStart => exact (driveStartDue_iff s).trans (by simp only [reached_iff]; rfl)
  | driveEnd => exact (driveEndDue_iff s).trans (by simp only [reached_iff]; rfl)
  | stopFall =>
    show fallDue s = true ↔ _ ∧ _ ∧ stopIsLow s = true ∧ _
    rw [stopIsLow_eq]
    simp only [fallDue, Bool.and_eq_true, Bool.not_eq_true', and_assoc]
  | longClassification =>
    show longDue s = true ↔ _ ∧ _ ∧ stopIsLow s = true ∧ _ ∧ _
    rw [stopIsLow_eq]
    simp only [longDue, Bool.and_eq_true, decide_eq_true_eq, lowSince_iff]
    exact ⟨fun ⟨h1, h2, h3, h4, h5⟩ => ⟨h2, h3, h4, h1, h5⟩, fun ⟨h2, h3, h4, h1, h5⟩ => ⟨h1, h2, h3, h4, h5⟩⟩
  | stopRise =>
    show riseDue s = true ↔ _ ∧ _ ∧ stopIsLow s = false ∧ _
    rw [stopIsLow_eq]
    simp only [riseDue, Bool.and_eq_true, Bool.not_eq_true', decide_eq_true_eq, and_assoc]
  | quiesceEnd =>
    show quiesceEndDue s = true ↔ _
    simp only [quiesceEndDue, Bool.and_eq_true, decide_eq_true_eq, Option.any_eq_true, reached_iff]
    rfl
  | busFault =>
    show busFaultDue s = true ↔ _ ∧ _ ∧ stopIsLow s = true ∧ _ ∧ _
    rw [stopIsLow_eq]
    simp only [busFaultDue, Bool.and_eq_true, Bool.not_eq_true', lowSince_iff]
    exact ⟨fun ⟨h1, h2, h3, h4, h5⟩ => ⟨h2, h3, h4, h1, h5⟩, fun ⟨h2, h3, h4, h1, h5⟩ => ⟨h1, h2, h3, h4, h5⟩⟩
  | joinIntervalEnd =>
    show joinEndDue s = true ↔ _
    simp only [joinEndDue, Bool.and_eq_true, Bool.not_eq_true', decide_eq_true_eq, Option.any_eq_true, reached_iff,
      and_assoc]
    rfl
  | holdExpiry owner seq =>
    show s.table.any (holdOver s owner seq) = true ↔ _
    simp only [List.any_eq_true, holdOver, Bool.and_eq_true, isRecord_iff, decide_eq_true_eq, reached_iff, and_assoc]
    rfl
  | retirement owner seq =>
    show s.table.any (retired s owner seq) = true ↔ _
    simp only [List.any_eq_true, retired, Bool.and_eq_true, isRecord_iff, reached_iff, and_assoc]
    rfl
  | headToSending =>
    refine (headDue_iff s).trans ⟨fun ⟨hst, hnone, hroom, hhead⟩ => ⟨hst, hroom, fun q hq => ?_, ?_⟩,
      fun ⟨hst, hroom, hnone, r, hr, hw⟩ => ⟨hst, fun q hq => ?_, hroom, ?_⟩⟩
    · simpa [Request.negotiating] using hnone q hq
    · simpa using (find_isSome_iff _ _).1 hhead
    · simpa [Request.negotiating] using hnone q hq
    · exact (find_isSome_iff _ _).2 ⟨r, hr, by simp [hw]⟩
  | deadlineExpiry tag =>
    show (s.request tag).any _ = true ↔ _
    simp only [Option.any_eq_true, Bool.and_eq_true, decide_eq_true_eq, deadlineOver]
    have hlead : (s.params.minLead : Int) = s.params.H + 2 * s.params.G := by simp [Params.minLead]
    rw [hlead]
    rfl
  | startTickReached tag => exact (startDue_iff tag s).trans (by simp only [reached_iff]; rfl)
  | channelEnd c => exact (Option.any_eq_true _ _).trans (by simp only [reached_iff]; rfl)
  | powerOnReset | resetRelease | readState | readTime | readEvents | fetchResult | resultClockedOut | query _
  | submit _ _ _ _ | cancel _ | abort _ | join | leave | resume | configure _ | readConfig | readErrorRecord
  | clearError | readCounters | clearCounters | readTable _ | readRoster _ | unknownCommand _
  | transactionDiscarded _ => exact ⟨nofun, nofun⟩

/-- Settles O5. -/
theorem eventNotDueChangesNothing : Obligations.EventNotDueChangesNothing := by
  refine ⟨fun t u => ⟨rfl, by simp [reached, tickDiff], by simp [later, tickDiff]⟩, receiving_iff,
    fun s tag => by simp only [State.request, beq_eq_decide], fun s slot => ?_, isDue_iff_happens,
    fun c s hevent hpower hrelease hclocked hnot => ?_⟩
  · simp only [onBus_iff, Transmit.frame_eq_some_iff]
  · exact exec_not_due hevent hpower hrelease hclocked
      (Bool.eq_false_iff.2 fun hdue => hnot ((isDue_iff_happens c s).1 hdue))

end Sys2Proof.Machine
end

section
/-!
PROOFS. Each event ends its own condition (O4).
-/

namespace Sys2Proof.Machine

open Sys2Proof.Said

/-! ### What an operation leaves of the bus -/

theorem State.takeDetection_receive (s : State) (d : Detection) :
    (s.takeDetection d).bus.receive = s.bus.receive ∨ (s.takeDetection d).bus.receive = .unsynchronised 0 := by
  obtain ⟨c, h⟩ | h | h | h := s.takeDetection_cases d <;> rw [h]
  · exact .inl rfl
  · exact .inr rfl
  · exact .inr rfl
  · exact .inl rfl

/-- The receive side is not IN FRAME. -/
def State.betweenFrames (s : State) : Prop := ∀ cells, s.bus.receive ≠ .inFrame cells

theorem State.betweenFrames.takeDetection {s : State} (h : s.betweenFrames) (d : Detection) :
    (s.takeDetection d).betweenFrames := by
  unfold State.betweenFrames
  obtain h' | h' := s.takeDetection_receive d <;> rw [h']
  · exact h
  · exact nofun

theorem State.betweenFrames.takeClaim {s : State} (h : s.betweenFrames) (f : Frame) (c : ClaimFields)
    (tag : Option Byte) : (s.takeClaim f c tag).betweenFrames := by
  obtain ⟨h', -⟩ | ⟨d, h', -⟩ | ⟨d, g, h', -⟩ | ⟨-, -, h' | ⟨g, h'⟩⟩ := s.takeClaim_cases f c tag <;> rw [h']
  · exact h
  · exact h.takeDetection d
  · exact State.betweenFrames.takeDetection (s := s.reportRefused g) h d
  · exact h
  · exact h

theorem State.betweenFrames.takeCancel {s : State} (h : s.betweenFrames) (f : Frame) (target : Seq) :
    (s.takeCancel f target).betweenFrames := by
  obtain h' | h' | ⟨g, h'⟩ | ⟨h', -⟩ := s.takeCancel_cases f target <;> rw [h']
  · exact h
  · exact h
  · exact h
  · exact h.takeDetection _

theorem State.betweenFrames.stage78 {s : State} (h : s.betweenFrames) (f : Frame) (tag : Option Byte) :
    (s.stage78 f tag).betweenFrames := by
  unfold State.stage78
  dsimp only
  split
  · unfold State.stage8
    split
    · refine State.betweenFrames.takeClaim ?_ f _ tag
      exact h
    · refine State.betweenFrames.takeCancel ?_ f _
      exact h
    · exact h
  · refine State.betweenFrames.takeDetection ?_ _
    cases tag <;> exact h

theorem State.betweenFrames.takeReceived {s : State} (h : s.betweenFrames) (f : Frame) :
    (s.takeReceived f).betweenFrames := by
  unfold State.takeReceived State.goodPeerFrame State.foreignFrame
  dsimp only
  split
  · split
    · refine State.betweenFrames.takeDetection ?_ _
      exact h
    · refine State.betweenFrames.stage78 ?_ f none
      exact h
  · split
    · exact fun _ => nofun
    · exact h

theorem received_of_betweenFrames {s : State} (h : s.betweenFrames) : received s = .incomplete := by
  unfold received
  split
  · next cells _ hcells => exact absurd hcells (h cells)
  · rfl

theorem State.placeJoin_bus (s : State) : s.placeJoin.bus = s.bus := by
  unfold State.placeJoin
  split
  · split <;> rfl
  · split <;> rfl
  · rfl

theorem State.takeWaitingMove_bus (s : State) : s.takeWaitingMove.bus = s.bus := by
  unfold State.takeWaitingMove
  split <;> rfl

theorem State.loseArbitration_quiet {s : State} {x : Sending} (h : s.bus.transmit.frame = some x) :
    s.loseArbitration.bus.transmit = .quiet := by
  unfold State.loseArbitration
  rw [h]
  dsimp only
  rw [State.takeWaitingMove_bus]
  rfl

theorem State.failReadback_quiet {s : State} {x : Sending} (h : s.bus.transmit.frame = some x) :
    s.failReadback.bus.transmit = .quiet := by
  unfold State.failReadback
  rw [h]
  dsimp only
  rw [State.takeWaitingMove_bus]
  exact State.takeDetection_quiet rfl _

theorem State.completeFrame_quiet {s : State} {x : Sending} (h : s.bus.transmit.frame = some x) :
    s.completeFrame.bus.transmit = .quiet := by
  rw [State.completeFrame_eq h, State.takeWaitingMove_bus]
  exact State.takeOwn_quiet (s := s.completed x) (s.released_quiet x) _ _

theorem State.attemptClaim_attempted (s : State) (tag : Byte) :
    (s.attemptClaim tag).bus.attempted = s.bus.attempted := by
  unfold State.attemptClaim
  split
  · rfl
  · split
    · rw [State.beginFrame_bus, State.updateRequest_bus]
    · rw [State.leaveRequest_bus]
    · rw [State.updateRequest_bus]

theorem State.attemptCancel_attempted (s : State) (tag : Byte) :
    (s.attemptCancel tag).bus.attempted = s.bus.attempted := by
  unfold State.attemptCancel
  split <;> rfl

/-- Whatever an attempt comes to, its boundary is used (R49). -/
theorem State.attempt_attempted {s : State} (h : attemptDue s = true) : s.attempt.bus.attempted = true := by
  obtain ⟨slot, hslot⟩ := Option.isSome_iff_exists.1 h
  unfold State.attempt
  cases slot with
  | claim tag =>
    rw [hslot]
    exact State.attemptClaim_attempted _ tag
  | cancel tag =>
    rw [hslot]
    exact State.attemptCancel_attempted _ tag
  | join =>
    rw [hslot]
    rfl

/-! ### What an operation leaves of the requests and the records -/

theorem State.request_leaveRequest (s : State) (tag : Byte) (o : ResultOutcome) (why : Reason) :
    (s.leaveRequest tag o why).request tag = none := by
  refine (request_none_iff _ tag).2 fun r hr => ?_
  exact ((State.mem_leaveRequest_list s tag o why r).1 hr).2

theorem reportsConfirmed_table (tags : List Byte) (s : State) :
    (tags.foldl State.reportConfirmed s).table = s.table ∧ (tags.foldl State.reportConfirmed s).now = s.now
      ∧ (tags.foldl State.reportConfirmed s).port = s.port := by
  induction tags generalizing s with
  | nil => exact ⟨rfl, rfl, rfl⟩
  | cons g rest ih => exact ih _

theorem eq_of_onEvent {due : State → Bool} {f : State → State} {s t : State} (hdue : due s = true)
    (h : onEvent due f s = .next t) : t = f s := by
  rw [onEvent_due due f s hdue] at h
  cases h
  rfl

/-- A start that is taken leaves no request of its tag that waits for its start. -/
theorem startDue_taken {tag : Byte} {s t : State} (hdue : startDue tag s = true)
    (h : execStartTickReached tag s = .next t) : startDue tag t = false := by
  have hfiring : ∀ (u : State) (r : Request), r.tag = tag → startDue tag (u.fillChannel r) = false := by
    intro u r hr
    refine Bool.eq_false_iff.2 fun h => ?_
    obtain ⟨q, -, hq, -, -, hstate⟩ := (startDue_iff tag _).1 h
    obtain ⟨hmem, hqtag⟩ := State.mem_of_request _ tag q hq
    rw [State.fillChannel_list] at hmem
    obtain ⟨p, -, rfl⟩ := List.mem_map.1 hmem
    split at hqtag
    · next hp =>
      rw [if_pos hp] at hstate
      exact hstate.elim nofun fun h => nomatch h.1
    · next hp => exact hp (hqtag.trans hr.symm)
  obtain ⟨hnot, -⟩ | ⟨r, -, hr, -, heq⟩ | ⟨r, -, -, -, heq⟩ := execStartTickReached_cases tag s
  · rw [hdue] at hnot
    cases hnot
  · obtain ⟨-, htag⟩ := s.mem_of_request tag r hr
    rw [heq] at h
    unfold State.fire at h
    split at h
    · cases h; exact hfiring _ r htag
    · split at h <;> cases h
      exact hfiring _ r htag
  · rw [heq] at h
    cases h
    unfold startDue
    rw [State.request_leaveRequest]
    rfl

/-- Settles O4. -/
theorem takenEventIsNoLongerDue : Obligations.TakenEventIsNoLongerDue := by
  intro c s t hdue hstep
  have hbetween : ∀ receive, (∀ cells, receive ≠ .inFrame cells) →
      State.betweenFrames { s with bus := { s.bus with receive := receive } } := fun _ h => h
  have harm := hstep
  unfold exec at harm
  cases c with
  | busSyncGained =>
    have ht := eq_of_onEvent (due := syncDue) hdue harm
    refine Bool.eq_false_iff.2 fun h => ?_
    obtain ⟨-, n, hn, -⟩ := (syncDue_iff t).1 h
    rw [ht, State.gainSync, State.placeJoin_bus] at hn
    cases hn
  | idleCount24 =>
    rw [eq_of_onEvent (due := idle24Due) hdue harm]
    rfl
  | startBit =>
    rw [eq_of_onEvent (due := startBitDue) hdue harm]
    rfl
  | attemptStart =>
    refine Bool.eq_false_iff.2 fun h => ?_
    obtain ⟨n, ⟨-, -, -, hattempted, -⟩, -⟩ := (offered_isSome_iff t).1 h
    rw [eq_of_onEvent (due := attemptDue) hdue harm, State.attempt_attempted hdue] at hattempted
    cases hattempted
  | arbitrationLost =>
    obtain ⟨x, -, hx, -⟩ := (lossDue_iff s).1 hdue
    refine Bool.eq_false_iff.2 fun h => ?_
    obtain ⟨y, -, hy, -⟩ := (lossDue_iff t).1 h
    rw [eq_of_onEvent (due := lossDue) hdue harm, State.loseArbitration_quiet (congrArg Transmit.frame hx)] at hy
    cases hy
  | arbitrationWon =>
    obtain ⟨x, -, hx, -⟩ := (wonDue_iff s).1 hdue
    refine Bool.eq_false_iff.2 fun h => ?_
    obtain ⟨y, -, hy, -⟩ := (wonDue_iff t).1 h
    rw [eq_of_onEvent (due := wonDue) hdue harm] at hy
    dsimp only at hy
    rw [hx] at hy
    cases hy
  | readback =>
    obtain ⟨x, cells, a, b, -, -, -, hx⟩ := (readbackDue_iff s).1 hdue
    have hframe : s.bus.transmit.frame = some x :=
      (Transmit.frame_eq_some_iff _ x).2 (hx.elim (fun h => .inr h.1) fun h => .inl h.1)
    refine Bool.eq_false_iff.2 fun h => ?_
    obtain ⟨y, cells', a', b', -, -, -, hy⟩ := (readbackDue_iff t).1 h
    rw [eq_of_onEvent (due := readbackDue) hdue harm, State.failReadback_quiet hframe] at hy
    exact hy.elim (fun h => nomatch h.1) fun h => nomatch h.1
  | frameCompleted =>
    obtain ⟨x, hx, -⟩ := (completedDue_iff s).1 hdue
    refine Bool.eq_false_iff.2 fun h => ?_
    obtain ⟨y, hy, -⟩ := (completedDue_iff t).1 h
    rw [eq_of_onEvent (due := completedDue) hdue harm, State.completeFrame_quiet (congrArg Transmit.frame hx)] at hy
    cases hy
  | frameEndReceived =>
    obtain ⟨f, hf⟩ := (frameEndDue_iff s).1 hdue
    refine Bool.eq_false_iff.2 fun h => ?_
    obtain ⟨g, hg⟩ := (frameEndDue_iff t).1 h
    rw [eq_of_onEvent (due := frameEndDue) hdue harm, State.endReceived, hf] at hg
    dsimp only at hg
    rw [received_of_betweenFrames (State.betweenFrames.takeReceived (hbetween (.outOfFrame 0) fun _ => nofun) f)] at hg
    cases hg
  | frameCheckFailed =>
    obtain ⟨d, hd⟩ := (checkFailedDue_iff s).1 hdue
    refine Bool.eq_false_iff.2 fun h => ?_
    obtain ⟨e, he⟩ := (checkFailedDue_iff t).1 h
    rw [eq_of_onEvent (due := checkFailedDue) hdue harm, State.failCheck, hd] at he
    dsimp only at he
    rw [received_of_betweenFrames
      (State.betweenFrames.takeDetection (hbetween (.unsynchronised 0) fun _ => nofun) d)] at he
    cases he
  | driveStart =>
    obtain ⟨c, start, finish, hdrive, -⟩ := (driveStartDue_iff s).1 hdue
    refine Bool.eq_false_iff.2 fun h => ?_
    obtain ⟨c', start', finish', hdrive', -⟩ := (driveStartDue_iff t).1 h
    have hpulled : s.startDrive.stop.drive = s.stop.drive.pull := by
      unfold State.startDrive
      dsimp only
      split <;> rfl
    rw [eq_of_onEvent (due := driveStartDue) hdue harm, hpulled, hdrive] at hdrive'
    cases hdrive'
  | driveEnd =>
    rw [eq_of_onEvent (due := driveEndDue) hdue harm]
    rfl
  | stopFall =>
    have hlow : s.takeFall.stop.lineLow = true := by
      unfold State.takeFall
      dsimp only
      split <;> rfl
    show fallDue t = false
    rw [eq_of_onEvent (due := fallDue) hdue harm, fallDue, hlow]
    simp
  | longClassification =>
    rw [eq_of_onEvent (due := longDue) hdue harm]
    rfl
  | stopRise =>
    have hhigh : s.takeRise.stop.lineLow = false := rfl
    show riseDue t = false
    rw [eq_of_onEvent (due := riseDue) hdue harm, riseDue, hhigh]
    simp
  | quiesceEnd =>
    have hgone : s.endQuiesce.stop.quiesceEnd = none := by
      unfold State.endQuiesce State.resumeWork State.placeJoin
      dsimp only
      split
      · rfl
      · split
        · rfl
        · split
          · split <;> rfl
          · split <;> rfl
          · rfl
    show quiesceEndDue t = false
    rw [eq_of_onEvent (due := quiesceEndDue) hdue harm, quiesceEndDue, hgone]
    simp
  | busFault =>
    rw [eq_of_onEvent (due := busFaultDue) hdue harm]
    rfl
  | joinIntervalEnd =>
    show joinEndDue t = false
    rw [eq_of_onEvent (due := joinEndDue) hdue harm, State.endJoinInterval]
    split
    · simp [joinEndDue]
    · rfl
  | holdExpiry owner seq =>
    show t.table.any (holdOver t owner seq) = false
    rw [eq_of_onEvent (due := holdDue owner seq) hdue harm, State.expireHold]
    obtain ⟨htable, hnow, hport⟩ := reportsConfirmed_table (voidedTags s.ownId (s.table.filter (holdOver s owner seq)))
      { s with table := s.table.map (fun r => if holdOver s owner seq r then { r with state := .confirmed } else r) }
    rw [htable, List.any_eq_false]
    intro x hx
    obtain ⟨y, -, rfl⟩ := List.mem_map.1 hx
    have hsame : ∀ u : State, u.now = s.now → u.port = s.port → ∀ x, holdOver u owner seq x = holdOver s owner seq x :=
      fun u hnow hport x => by
        unfold holdOver
        rw [hnow, State.params_congr (congrArg LocalPort.image hport)]
    rw [hsame _ hnow hport]
    split
    · simp [holdOver]
    · next hnot => exact hnot
  | retirement owner seq =>
    show t.table.any (retired t owner seq) = false
    rw [eq_of_onEvent (due := retirementDue owner seq) hdue harm, List.any_eq_false]
    intro x hx
    have hkept := (List.mem_filter.1 hx).2
    rw [Bool.not_eq_true'] at hkept
    exact Bool.eq_false_iff.1 hkept
  | headToSending =>
    obtain ⟨-, -, -, hhead⟩ := (headDue_iff s).1 hdue
    obtain ⟨r, hr⟩ := Option.isSome_iff_exists.1 hhead
    obtain ⟨hmem, -⟩ := State.head_eq_some hr
    refine Bool.eq_false_iff.2 fun h => ?_
    obtain ⟨-, hnone, -⟩ := (headDue_iff t).1 h
    rw [eq_of_onEvent (due := headDue) hdue harm, State.moveHead, hr] at hnone
    have hsending := hnone _ (List.mem_map.2 ⟨r, hmem, if_pos rfl⟩)
    cases hsending
  | deadlineExpiry tag =>
    show deadlineDue tag t = false
    rw [eq_of_onEvent (due := deadlineDue tag) hdue harm, deadlineDue, State.request_leaveRequest]
    rfl
  | startTickReached tag => exact startDue_taken hdue harm
  | channelEnd c =>
    obtain ⟨e, he, -⟩ := (Option.any_eq_true _ _).1 (show channelEndDue c s = true from hdue)
    show channelEndDue c t = false
    rw [eq_of_onEvent (due := channelEndDue c) hdue harm, State.endChannel, he, channelEndDue]
    have hidle : (s.endPulse c e).channel c = none := State.channel_setChannel_same s c none
    dsimp only
    rw [hidle]
    rfl
  | powerOnReset | resetRelease | readState | readTime | readEvents | fetchResult | resultClockedOut | query _
  | submit _ _ _ _ | cancel _ | abort _ | join | leave | resume | configure _ | readConfig | readErrorRecord
  | clearError | readCounters | clearCounters | readTable _ | readRoster _ | unknownCommand _
  | transactionDiscarded _ => cases hdue

end Sys2Proof.Machine
end

section
/-!
PROOFS. The model's shared operations in the words of the statements: a departing request, the exits, a detection,
the drive.
-/

namespace Sys2Proof.Machine

open Sys2Proof.Said

/-! ### Departures and changes (R34, R131) -/

theorem State.leaveRequest_departed {s : State} {r : Request} (hr : r ∈ s.req.list) (htags : tagsDiffer s)
    (o : ResultOutcome) (why : Reason) :
    s.leaveRequest r.tag o why = departed s r o why (r.result o why).start := s.leaveRequest_eq r o why hr htags

/-- One request leaves at an event and the others stay as they are. -/
theorem State.settle_departed {s : State} {tags : List Byte} {d : Request → Disposition} {r : Request}
    {o : ResultOutcome} {why : Reason} (hr : r ∈ s.req.list) (htags : tagsDiffer s) (hd : d r = .leave o why)
    (hs : ∀ q ∈ s.req.list, q.tag ≠ r.tag → d q = .stay q) :
    s.settle tags d = departed s r o why (r.result o why).start := s.settle_one_leaves tags d r o why hr htags hd hs

theorem State.updateRequest_changed (s : State) (tag : Byte) (f : Request → Request) :
    s.updateRequest tag f = changed s tag f := rfl

theorem State.placeCancel_withCancel (s : State) (r : Request) : s.placeCancel r = withCancel s r := by
  rfl

/-! ### Exits (R89 to R93, R146 to R148) -/

theorem Request.exitEntry_exitResult (why : Reason) (r : Request) : r.exitEntry why = exitResult why r := by
  unfold Request.exitEntry exitResult
  cases r.state with
  | firing => rfl
  | cancelling => rfl
  | waiting | sending | pending | granted => cases r.mark <;> rfl

theorem Request.silentEntry_exitResult {r : Request} (h : r.state ≠ .firing) :
    r.silentEntry = exitResult .silent r := by
  unfold Request.silentEntry exitResult
  cases hstate : r.state with
  | firing => exact absurd hstate h
  | cancelling => rfl
  | waiting | sending | pending | granted => cases r.mark <;> rfl

theorem unsyncRoster_eq (v : Vector RosterEntry 32) :
    unsyncRoster v = v.map (fun e => { e with expectation := none }) := mapEntries_eq_map _ _

theorem State.enterConfigFault_fallenOut (s : State) : s.enterConfigFault = fallenOut s .configFault .fault := by
  rw [State.enterConfigFault_eq, show Request.exitEntry .fault = exitResult .fault from
    funext (Request.exitEntry_exitResult .fault)]
  rfl

theorem State.enterOffline_fallenOut (s : State) : s.enterOffline = { fallenOut s .offline .leave with
    port := { (fallenOut s .offline .leave).port with digest := none } } := by
  rw [State.enterOffline_eq, show Request.exitEntry .leave = exitResult .leave from
    funext (Request.exitEntry_exitResult .leave)]
  rfl

theorem State.enterSilent_silent (s : State) : s.enterSilent = silent s := by
  have hentries : (s.req.list.filter (fun r => decide (r.state ≠ .firing))).map Request.silentEntry
      = (s.req.list.filter (fun r => decide (r.state ≠ .firing))).map (exitResult .silent) :=
    List.map_congr_left fun r hr => Request.silentEntry_exitResult (of_decide_eq_true (List.mem_filter.1 hr).2)
  rw [State.enterSilent_eq, hentries, unsyncRoster_eq]
  rfl

/-! ### Detections and the drive (R98, R99, R117) -/

theorem State.recordDetection_recorded (s : State) (d : Detection) : s.recordDetection d = recorded s d := by
  unfold State.recordDetection recorded
  cases s.log.record <;> rfl

theorem requestDrive_eq (d : Drive) (c : PulseClass) (now : Tick) : requestDrive d c now = driveAfter d c now := by
  have hfresh : Machine.freshDrive c now = Said.freshDrive now c := by cases c <;> rfl
  unfold requestDrive driveAfter
  rw [hfresh]
  cases d with
  | released => rfl
  | driving old start finish pulling =>
    dsimp only
    split
    · rfl
    · cases old <;> cases c <;> rfl

theorem State.requestPulse_driven (s : State) (c : PulseClass) : s.requestPulse c = driven s c := by
  unfold State.requestPulse driven
  rw [requestDrive_eq]

end Sys2Proof.Machine
end

section
/-!
PROOFS. The commands of the local port that read, clear, fetch, submit, abort, configure and leave (O11 to O14, O16,
O17, O19, O20).
-/

namespace Sys2Proof.Machine

open Sys2Proof.Said

/-! ### Values as bytes (R163, 11.5) -/

theorem bytes2_toNat (v : BitVec 16) : (bytes2 v).map BitVec.toNat = [v.toNat / 256, v.toNat % 256] := by
  have hv := v.isLt
  simp only [bytes2, List.map_cons, List.map_nil, BitVec.extractLsb'_toNat, Nat.shiftRight_eq_div_pow]
  congr 1
  · omega
  · simp

theorem seqBytes_toNat (v : Seq) : (seqBytes v).map BitVec.toNat = [v.toNat / 256, v.toNat % 256] := by
  have hv := v.isLt
  have hwide : (v.setWidth 16).toNat = v.toNat := by rw [BitVec.toNat_setWidth]; omega
  rw [seqBytes, bytes2_toNat, hwide]

theorem tickBytes_toNat (t : Tick) : (tickBytes t).map BitVec.toNat
    = [t.toNat / 2 ^ 24, t.toNat / 2 ^ 16 % 256, t.toNat / 256 % 256, t.toNat % 256] := by
  have ht := t.isLt
  simp only [tickBytes, List.map_cons, List.map_nil, BitVec.extractLsb'_toNat, Nat.shiftRight_eq_div_pow]
  congr 1
  · omega
  · simp

theorem ofBits_nil : ofBits [].reverse = 0 := rfl

theorem configBytes_length (image : Option Image) (digest : Option Byte) :
    (configBytes image digest).length = 49 := by
  simp only [configBytes, List.length_append, List.length_singleton, Vector.length_toList]

/-! ### READ CONFIG, READ ERROR RECORD, READ COUNTERS (R173, R180) -/

theorem configBytes_eq (image : Option Image) (digest : Option Byte) : configBytes image digest
    = [BitVec.ofNat 8 (image.isSome.toNat + 2 * digest.isSome.toNat)]
      ++ (image.map Vector.toList).getD (List.replicate 47 0) ++ [digest.getD 0] := by
  have hflags : flagsByte [image.isSome, digest.isSome]
      = BitVec.ofNat 8 (image.isSome.toNat + 2 * digest.isSome.toNat) := by
    simp only [flagsByte, ofBits_reverse_cons, ofBits_nil]
    congr 1
  rw [configBytes, hflags]
  cases image <;> rfl

theorem errorFlags_eq (d : Detection) (verified : Bool) : flagsByte [true, d.header.isSome, verified,
    d.expected.isSome, d.claim.isSome, d.target.isSome] = BitVec.ofNat 8 (1 + 2 * d.header.isSome.toNat
      + 4 * verified.toNat + 8 * d.expected.isSome.toNat + 16 * d.claim.isSome.toNat
      + 32 * d.target.isSome.toNat) := by
  simp only [flagsByte, ofBits_reverse_cons, ofBits_nil, Bool.toNat_true]
  congr 1
  omega

/-- Settles O11. -/
theorem readConfigErrorRecordAndCountersReport : Obligations.ReadConfigErrorRecordAndCountersReport := by
  refine ⟨by decide, bytes2_toNat, seqBytes_toNat, tickBytes_toNat,
    fun s hopen => ⟨?_, configBytes_length _ _⟩, fun s hopen => ⟨fun hnone => ?_, fun e he => ?_, ?_⟩⟩
  · show execReadConfig s = _
    rw [execReadConfig, onPort_of_portOpen hopen, configBytes_eq]
    cases s.port.image <;> rfl
  · show execReadErrorRecord s = _
    rw [execReadErrorRecord, onPort_of_portOpen hopen, hnone]
    rfl
  · show execReadErrorRecord s = _
    rw [execReadErrorRecord, onPort_of_portOpen hopen, he]
    dsimp only [errorBytes]
    rw [errorFlags_eq]
    cases e.detection.header <;> cases e.detection.claim <;> rfl
  · show execReadCounters s = _
    rw [execReadCounters, onPort_of_portOpen hopen]
    rfl

/-! ### READ TABLE, READ ROSTER, QUERY (R41, R77, R152, R181) -/

theorem exec_readTable_open {s : State} (hopen : portOpen s) (i : Byte) : exec (.readTable i) s = .next
    (if 47 < i.toNat then s.answer .badParam []
      else (s.table[i.toNat]?.map fun x => s.answer .ok x.bytes).getD (s.answer .empty [])) := by
  show execReadTable i s = _
  rw [execReadTable, onPort_of_portOpen hopen]
  cases s.table[i.toNat]? <;> rfl

theorem exec_readRoster_open {s : State} (hopen : portOpen s) (i : Byte) : exec (.readRoster i) s = .next
    (if 31 < i.toNat then s.answer .badParam [] else s.answer .ok (s.entry (i.setWidth 5)).bytes) := by
  show execReadRoster i s = _
  rw [execReadRoster, onPort_of_portOpen hopen]

theorem exec_query_open {s : State} (hopen : portOpen s) (tag : Byte) : exec (.query tag) s = .next
    (((s.request tag).map fun r => s.answer .ok r.bytes).getD (s.answer .unknownTag [])) := by
  show execQuery tag s = _
  rw [execQuery, onPort_of_portOpen hopen]
  cases s.request tag <;> rfl

theorem RosterEntry.bytes_eq (e : RosterEntry) : e.bytes
    = [BitVec.ofNat 8 (e.present.toNat + 2 * e.group.isSome.toNat + 4 * e.expectation.isSome.toNat
        + 8 * e.lastHeard.isSome.toNat), (e.group.getD 0).setWidth 8]
      ++ seqBytes (e.expectation.getD 0) ++ tickBytes (e.lastHeard.getD 0) := by
  have hflags : flagsByte [e.present, e.group.isSome, e.expectation.isSome, e.lastHeard.isSome]
      = BitVec.ofNat 8 (e.present.toNat + 2 * e.group.isSome.toNat + 4 * e.expectation.isSome.toNat
        + 8 * e.lastHeard.isSome.toNat) := by
    simp only [flagsByte, ofBits_reverse_cons, ofBits_nil]
    congr 1
    omega
  rw [RosterEntry.bytes, hflags]
  rfl

theorem Request.bytes_eq (r : Request) : r.bytes
    = [r.state.code, BitVec.ofNat 8 r.attempts, BitVec.ofNat 8 (r.start.isSome.toNat + 2 * r.mark.toNat)]
      ++ tickBytes (r.start.getD 0) := by
  have hflags : flagsByte [r.start.isSome, r.mark] = BitVec.ofNat 8 (r.start.isSome.toNat + 2 * r.mark.toNat) := by
    simp only [flagsByte, ofBits_reverse_cons, ofBits_nil]
    congr 1
  rw [Request.bytes, hflags]
  rfl

theorem ClaimRecord.bytes_eq (x : ClaimRecord) : x.bytes
    = [x.owner.setWidth 8] ++ seqBytes x.seq ++ [x.cls.setWidth 8, x.group.setWidth 8, x.weight]
      ++ tickBytes x.start ++ tickBytes x.received ++ [if x.state = .pending then 0 else 1, x.tag.getD 0] := by
  have hcode : x.state.code = if x.state = .pending then 0 else 1 := by cases x.state <;> rfl
  rw [← hcode]
  rfl

/-- Settles O12. -/
theorem readTableRosterAndQueryReport : Obligations.ReadTableRosterAndQueryReport := by
  refine ⟨fun s i hopen => ⟨fun x hx hi => ?_, fun hempty hi => ?_, fun hi => ?_, fun id hid => ?_, fun hi => ?_⟩,
    fun s tag hopen => ⟨fun r hr htag htags => ?_, fun hnone => ?_⟩⟩
  · rw [exec_readTable_open hopen, if_neg (by omega), hx, Option.map_some, Option.getD_some, ClaimRecord.bytes_eq]
  · rw [exec_readTable_open hopen, if_neg (by omega), List.getElem?_eq_none hempty]
    rfl
  · rw [exec_readTable_open hopen, if_pos hi]
  · have hlt := id.isLt
    have hsame : i.setWidth 5 = id := BitVec.eq_of_toNat_eq (by rw [BitVec.toNat_setWidth, ← hid]; omega)
    rw [exec_readRoster_open hopen, if_neg (by omega), hsame, RosterEntry.bytes_eq]
    rfl
  · rw [exec_readRoster_open hopen, if_pos hi]
  · rw [exec_query_open hopen, ← htag, s.request_eq_some r hr htags, Option.map_some, Option.getD_some,
      Request.bytes_eq]
  · rw [exec_query_open hopen, (request_none_iff s tag).2 hnone]
    rfl

/-! ### FETCH RESULT (R170, R171) -/

theorem presents_iff (x : Transaction) :
    x.presents = true ↔ ∃ wait st bytes, x = .answered wait st bytes true := by
  cases x <;> simp [Transaction.presents]

theorem fetched_of_not_presents {x : Transaction} (h : x.presents = false) : x.fetched = x := by
  cases x with
  | answered wait st bytes fetching =>
    have hf : fetching = false := h
    rw [hf]
    rfl
  | idle | receiving | discarded => rfl

/-- Settles O13. -/
theorem fetchedEntryLeavesWhenClockedOut : Obligations.FetchedEntryLeavesWhenClockedOut := by
  refine ⟨fun s st bytes => ?_, fun s hopen => ⟨fun hempty => ?_, fun e rest hresults => ?_,
    fun wait st bytes htransaction => ?_, fun hnot => ?_⟩⟩
  · unfold State.answer LocalPort.reply Transaction.presents
    cases s.port.transaction <;> rfl
  · show execFetchResult s = _
    rw [execFetchResult, onPort_of_portOpen hopen, hempty]
  · show execFetchResult s = _
    rw [execFetchResult, onPort_of_portOpen hopen, hresults]
    rfl
  · show onEvent State.presenting State.removePresented s = _
    obtain ⟨hreset, -⟩ := hopen
    rw [onEvent_due _ _ s (by simp [State.presenting, hreset, htransaction, Transaction.presents]),
      State.removePresented, htransaction, List.drop_one]
    rfl
  · obtain ⟨hreset, -⟩ := hopen
    have hquiet : s.port.transaction.presents = false := Bool.eq_false_iff.2 fun h => by
      obtain ⟨wait, st, bytes, h⟩ := (presents_iff _).1 h
      exact hnot wait st bytes h
    show onEvent State.presenting State.removePresented s = _
    have hdue : s.presenting = s.port.fetchEnding := by simp [State.presenting, hreset, hquiet]
    split
    · next hending =>
      rw [onEvent_due _ _ s (hdue.trans hending), State.removePresented, fetched_of_not_presents hquiet, List.drop_one]
    · next hending => rw [onEvent_not_due _ _ s (hdue.trans (Bool.eq_false_iff.2 hending))]

/-! ### SUBMIT (R129, R130) -/

theorem submitAnswer_eq (tag cls : Byte) (s : State) : submitAnswer tag cls s =
    if ¬(s.ctrl.station = .listening ∨ s.ctrl.station = .active ∨ s.ctrl.station = .quiesce) then .notActive
    else if tag = 0 ∨ (∃ r ∈ s.req.list, r.tag = tag)
        ∨ ¬(cls.toNat < 8 ∧ (s.classOf (cls.setWidth 3)).enabled = true) then .badParam
    else if 8 ≤ s.req.list.length ∨ 16 ≤ s.req.list.length + s.port.results.length then .busy
    else .ok := by
  have hon : (!s.ctrl.station.receiving) = true
      ↔ ¬(s.ctrl.station = .listening ∨ s.ctrl.station = .active ∨ s.ctrl.station = .quiesce) := by
    rw [← receiving_iff]
    simp
  have hlisted : (s.request tag).isSome = true ↔ ∃ r ∈ s.req.list, r.tag = tag := by
    simp [State.request]
  have hparam : (tag = 0#8 || (s.request tag).isSome || 7 < cls.toNat
        || !(s.classOf (cls.setWidth 3)).enabled) = true
      ↔ tag = 0 ∨ (∃ r ∈ s.req.list, r.tag = tag)
        ∨ ¬(cls.toNat < 8 ∧ (s.classOf (cls.setWidth 3)).enabled = true) := by
    simp only [Bool.or_eq_true, decide_eq_true_eq, hlisted, Bool.not_eq_true', not_and_or, not_lt, or_assoc,
      Bool.not_eq_true]
    rfl
  unfold submitAnswer
  exact if_congr hon rfl (if_congr hparam rfl (if_congr (by simp) rfl rfl))

/-- Settles O14. -/
theorem submitExaminesInOrder : Obligations.SubmitExaminesInOrder := by
  intro s tag cls notBefore deadline hopen
  show execSubmit tag cls notBefore deadline s = _
  rw [execSubmit, onPort_of_portOpen hopen, submitAnswer_eq]
  by_cases hon : ¬(s.ctrl.station = .listening ∨ s.ctrl.station = .active ∨ s.ctrl.station = .quiesce)
  · rw [if_pos hon, if_pos hon]
  · rw [if_neg hon, if_neg hon]
    by_cases hparam : tag = 0 ∨ (∃ r ∈ s.req.list, r.tag = tag)
        ∨ ¬(cls.toNat < 8 ∧ (s.classOf (cls.setWidth 3)).enabled = true)
    · rw [if_pos hparam, if_pos hparam]
    · rw [if_neg hparam, if_neg hparam]
      by_cases hcredit : 8 ≤ s.req.list.length ∨ 16 ≤ s.req.list.length + s.port.results.length
      · rw [if_pos hcredit, if_pos hcredit]
      · rw [if_neg hcredit, if_neg hcredit]
        rfl

/-! ### ABORT (R141, R158) -/

/-- Settles O16. -/
theorem abortCutsABusyChannel : Obligations.AbortCutsABusyChannel := by
  intro s b hopen
  have hexec : exec (.abort b) s = .next (if 3 < b.toNat then s.answer .badParam []
      else ((s.channel (b.setWidth 2)).map fun e => (s.cutChannel (b.setWidth 2) e).answer .ok []).getD
        (s.answer .idle [])) := by
    show execAbort b s = _
    rw [execAbort, onPort_of_portOpen hopen]
    cases s.channel (b.setWidth 2) <;> rfl
  refine ⟨fun hb => by rw [hexec, if_pos hb], fun c hc => ?_⟩
  have hlt := c.isLt
  have hsame : b.setWidth 2 = c := BitVec.eq_of_toNat_eq (by rw [BitVec.toNat_setWidth, ← hc]; omega)
  rw [hsame] at hexec
  refine ⟨fun hidle => by rw [hexec, if_neg (by omega), hidle]; rfl, fun e r he hr htag htags => ⟨?_, ?_, ?_⟩⟩
  · show (s.channel c).isSome = true
    rw [he]
    rfl
  · rw [hexec, if_neg (by omega), he, Option.map_some, Option.getD_some, State.cutChannel, ← htag,
      State.leaveRequest_departed (s := s.setChannel c none) hr htags]
    rfl
  · show ((s.setChannel c none).channel c).isSome = false
    rw [State.channel_setChannel_same]
    rfl

/-! ### CONFIGURE and the layout of the image (R165, R172, R185) -/

theorem imageByte_eq (img : Image) (i : Nat) (h : i < 47) : imageByte img i = img[i] := by
  unfold imageByte
  rw [List.getD_eq_getElem _ _ (by rw [Vector.length_toList]; exact h), Vector.getElem_toList]

theorem imageWord_eq (img : Image) (i : Nat) : imageWord img i = word img i := by
  unfold imageWord word
  have hlow := (imageByte img (i + 1)).isLt
  rw [BitVec.toNat_append, Nat.shiftLeft_eq, Nat.mul_comm, ← Nat.two_pow_add_eq_or_of_lt hlow]

theorem imageParams_eq (img : Image) : imageParams img = ⟨word img 0, (imageByte img 2).toNat, word img 3, word img 5,
    word img 7, (imageByte img 9).toNat, word img 10⟩ := by
  simp only [imageParams, imageWord_eq]

theorem byte_low7 (b : Byte) : (b.extractLsb' 0 7).toNat = b.toNat % 128 := by
  rw [BitVec.extractLsb'_toNat, Nat.shiftRight_zero]

theorem byte_msb (b : Byte) : b.msb = decide (128 ≤ b.toNat) := BitVec.msb_eq_decide b

theorem imageClass_eq (img : Image) (c : ClassNo) : imageClass img c = ⟨decide (classOn img c.toNat),
    (imageByte img (15 + 4 * c.toNat)).toNat % 128, imageByte img (15 + 4 * c.toNat + 1),
    word img (15 + 4 * c.toNat + 2)⟩ := by
  simp only [imageClass, imageWord_eq, byte_low7, byte_msb]

theorem portDecode_configure (bytes : List Byte) : portDecode (48 :: bytes)
    = if 47 ≤ bytes.length then .configure (paramImage bytes) else .transactionDiscarded (48 :: bytes) := by
  have hspells : spellsCommand (48 :: bytes) = decide (47 ≤ bytes.length) := rfl
  have hcommand : commandOf 48 bytes = .configure (paramImage bytes) := rfl
  show (if spellsCommand (48 :: bytes) then commandOf 48 bytes else _) = _
  rw [hspells, hcommand]
  simp only [decide_eq_true_eq]

theorem paramImage_toList {bytes : List Byte} (h : bytes.length = 47) : (paramImage bytes).toList = bytes := by
  unfold paramImage
  rw [Vector.toList_ofFn]
  refine List.ext_getElem (by rw [List.length_ofFn, h]) fun i _ hi => ?_
  rw [List.getElem_ofFn]
  exact List.getD_eq_getElem _ _ hi

/-- Settles O17. -/
theorem configureStoresTheBytesInOffline : Obligations.ConfigureStoresTheBytesInOffline := by
  refine ⟨fun bytes h => ⟨paramImage bytes, paramImage_toList h, ?_⟩, fun bytes h => ?_, fun s img himage => ?_,
    fun s img hopen => ?_⟩
  · rw [portDecode_configure, if_pos h.ge]
  · rw [portDecode_configure, if_neg (by omega)]
  · have hin : s.image = img := by rw [State.image, himage]; rfl
    refine ⟨imageByte_eq img, ?_, ?_, ?_, ?_, fun c => ⟨?_, ?_⟩⟩
    · rw [State.params, hin, imageParams_eq]
    · rw [State.ownId, hin, BitVec.toNat_setWidth]
    · rw [State.ownGroup, hin, BitVec.toNat_setWidth]
    · rw [State.tolerance, hin]
      split
      · next h => exact iff_of_true rfl h
      · next h => exact iff_of_false nofun h
    · rw [State.classOf, hin, imageClass_eq]
    · rw [State.channelOf, State.classOf, hin, imageClass_eq, BitVec.toNat_ofNat]
      exact Nat.mod_mod_of_dvd _ (by decide)
  · show execConfigure img s = _
    rw [execConfigure, onPort_of_portOpen hopen]

/-! ### LEAVE (R89, R146) -/

/-- Settles O19. -/
theorem leaveTakesTheStationOffline : Obligations.LeaveTakesTheStationOffline := by
  intro s hopen
  have hexec : exec .leave s = .next (if s.ctrl.station = .offline then s.answer .wrongState []
      else s.enterOffline.answer .ok []) := by
    show execLeave s = _
    rw [execLeave, onPort_of_portOpen hopen]
  refine ⟨fun hoff => by rw [hexec, if_pos hoff], fun hon => ?_⟩
  rw [hexec, if_neg hon, State.enterOffline_fallenOut]

/-! ### CLEAR ERROR, CLEAR COUNTERS, and bytes that are no command (R121, R124, R163 to R165) -/

theorem paramCount_eq_none_iff (code : Byte) : paramCount code = none
    ↔ code.toNat ∉ [1, 2, 3, 4, 5, 16, 17, 18, 32, 33, 34, 48, 49, 64, 65, 66, 67, 80, 81] := by
  decide +revert

/-- Settles O20. -/
theorem clearsAndStrayBytes : Obligations.ClearsAndStrayBytes := by
  refine ⟨fun s hopen => ⟨?_, ?_⟩, paramCount_eq_none_iff, fun s hopen code hcode => ?_,
    fun s received hcut => ?_, fun s k => ⟨fun hoff => ?_, fun hreset htransaction => ?_,
      fun wait st bytes fetching hreset htransaction => ⟨fun hwait => ?_, fun hwait => ?_⟩⟩⟩
  · show execClearError s = _
    rw [execClearError, onPort_of_portOpen hopen]
  · show execClearCounters s = _
    rw [execClearCounters, onPort_of_portOpen hopen]
    rfl
  · show execUnknownCommand code s = _
    have hwell : (Instr.unknownCommand code).wellFormed = true := by rw [Instr.wellFormed, hcode]; rfl
    rw [execUnknownCommand, if_pos hwell, onPort_of_portOpen hopen]
  · have hwell : (Instr.transactionDiscarded received).wellFormed = true := by rw [Instr.wellFormed, hcut]; rfl
    exact if_pos hwell
  · unfold State.sdo
    obtain hreset | hidle := hoff
    · rw [if_pos hreset]
    · rw [hidle]
      split <;> rfl
  · rw [State.sdo, hreset, htransaction]
    rfl
  · rw [State.sdo, hreset, htransaction]
    cases wait with
    | zero => cases hwait
    | succ n => rfl
  · rw [State.sdo, hreset, htransaction, hwait]
    rfl

end Sys2Proof.Machine
end

section
/-!
PROOFS. CANCEL by the state of its request (O15), JOIN and RESUME (O18), and the bytes of the local port (O21).
-/

namespace Sys2Proof.Machine

open Sys2Proof.Said

/-! ### CANCEL (R142, R150) -/

theorem exec_cancel_open {s : State} (hopen : portOpen s) (tag : Byte) : exec (.cancel tag) s = .next
    (((s.request tag).map fun r => (cancelRequest s r).1.answer (cancelRequest s r).2 []).getD
      (s.answer .unknownTag [])) := by
  show execCancel tag s = _
  rw [execCancel, onPort_of_portOpen hopen]
  cases s.request tag <;> rfl

theorem exec_cancel_listed {s : State} (hopen : portOpen s) {r : Request} (hr : r ∈ s.req.list)
    (htags : tagsDiffer s) :
    exec (.cancel r.tag) s = .next ((cancelRequest s r).1.answer (cancelRequest s r).2 []) := by
  rw [exec_cancel_open hopen, s.request_eq_some r hr htags]
  rfl

/-- The claim of a request may begin at this very boundary (R47, R53). -/
theorem offered_claim_iff (s : State) (tag : Byte) : offered s = some (.claim tag) ↔ s.ctrl.station = .active
    ∧ (∀ c ∈ s.req.cancelSlots, c.late = true) ∧ s.req.claimSlot = some tag
    ∧ ∃ n, boundary s n ∧ (s.bus.defer = true → 24 ≤ n) := by
  have hoffer : ∀ n, 8 ≤ n → (offer s n = some (.claim tag) ↔ s.ctrl.station = .active
      ∧ (∀ c ∈ s.req.cancelSlots, c.late = true) ∧ s.req.claimSlot = some tag
      ∧ (s.bus.defer = true → 24 ≤ n)) := by
    intro n hn
    have hlate : (∀ c ∈ s.req.cancelSlots, c.late = true) ↔ s.req.cancelSlots.find? (fun c => !c.late) = none := by
      simp
    rw [hlate]
    unfold offer
    rw [if_neg (by omega)]
    cases s.ctrl.station with
    | active =>
      cases s.req.cancelSlots.find? (fun c => !c.late) with
      | some c => simp
      | none =>
        cases s.req.claimSlot with
        | none => simp
        | some g => cases s.bus.defer <;> simp [and_comm]
    | listening => cases s.req.joinSlot <;> simp
    | offline | quiesce | silent | configFault => simp
  constructor
  · intro h
    obtain ⟨n, hboundary, -⟩ := (offered_isSome_iff s).1 (by rw [h]; rfl)
    rw [offered_of_boundary hboundary] at h
    obtain ⟨hst, hlate, hclaim, hdefer⟩ := (hoffer n hboundary.2.1).1 h
    exact ⟨hst, hlate, hclaim, n, hboundary, hdefer⟩
  · rintro ⟨hst, hlate, hclaim, n, hboundary, hdefer⟩
    rw [offered_of_boundary hboundary]
    exact (hoffer n hboundary.2.1).2 ⟨hst, hlate, hclaim, hdefer⟩

/-- A CANCEL that is offered is the first in the slots that does not wait for a start. -/
theorem offered_cancel {s : State} {tag : Byte} (h : offered s = some (.cancel tag)) :
    ∃ c ∈ s.req.cancelSlots, c.tag = tag ∧ c.late = false := by
  obtain ⟨n, hboundary, -⟩ := (offered_isSome_iff s).1 (by rw [h]; rfl)
  obtain ⟨-, hn, -⟩ := id hboundary
  rw [offered_of_boundary hboundary, offer, if_neg (by omega)] at h
  split at h
  · next _ c _ hc =>
    cases h
    exact ⟨c, List.mem_of_find?_eq_some hc, rfl, by simpa using List.find?_some hc⟩
  · split at h <;> cases h
  · split at h <;> cases h
  · cases h

theorem State.onBus_beginFrame (s : State) (slot slot' : SlotRef) (p : Payload) :
    (s.beginFrame slot p).onBus slot' = (slot == slot') := rfl

/-- After an attempt the frame on LINK is the one that was offered, or the one that was there. -/
theorem State.attempt_onBus {s : State} {slot : SlotRef} (h : s.attempt.onBus slot = true) :
    offered s = some slot ∨ s.onBus slot = true := by
  have hkept : ∀ u : State, u.bus.transmit = s.bus.transmit → u.onBus slot = true → s.onBus slot = true :=
    fun u hu h => by
      rw [onBus_iff] at h ⊢
      rwa [← hu]
  unfold State.attempt at h
  dsimp only at h
  split at h
  · exact .inr h
  · next tag hoffered =>
    unfold State.attemptClaim at h
    split at h
    · exact .inr (hkept _ rfl h)
    · split at h
      · rw [State.onBus_beginFrame] at h
        exact .inl (hoffered.trans (congrArg some (beq_iff_eq.1 h)))
      · exact .inr (hkept _ (by rw [State.leaveRequest_bus]; rfl) h)
      · exact .inr (hkept _ rfl h)
  · next tag hoffered =>
    unfold State.attemptCancel at h
    split at h
    · rw [State.onBus_beginFrame] at h
      exact .inl (hoffered.trans (congrArg some (beq_iff_eq.1 h)))
    · exact .inr (hkept _ rfl h)
  · next hoffered =>
    rw [State.onBus_beginFrame] at h
    exact .inl (hoffered.trans (congrArg some (beq_iff_eq.1 h)))

section Cancel

variable {s : State} {r : Request} (hr : r ∈ s.req.list) (htags : tagsDiffer s)
include hr htags

theorem cancelRequest_waiting (hst : r.state = .waiting) :
    cancelRequest s r = (departed s r .cancelled .none none, .ok) := by
  unfold cancelRequest
  rw [hst]
  exact congrArg (·, Status.ok) (State.leaveRequest_departed hr htags .cancelled .none)

theorem cancelRequest_sending_off (hst : r.state = .sending) (hoff : s.onBus (.claim r.tag) = false) :
    cancelRequest s r = (departed (s.withholdBoundary r.tag) r .cancelled .none none, .ok) := by
  unfold cancelRequest
  rw [hst]
  dsimp only
  rw [hoff]
  have hlist := s.withholdBoundary_list r.tag
  refine congrArg (·, Status.ok) (State.leaveRequest_departed (s := s.withholdBoundary r.tag) ?_ ?_ .cancelled .none)
  · rw [hlist]; exact hr
  · rw [tagsDiffer, hlist]; exact htags

omit hr htags in
theorem cancelSlotsFull_iff : s.cancelSlotsFull = true ↔ 2 ≤ s.req.cancelSlots.length := by
  simp [State.cancelSlotsFull]

omit hr htags in
theorem cancelRequest_sending_on (hst : r.state = .sending) (hon : s.onBus (.claim r.tag) = true) :
    cancelRequest s r = if r.mark then (s, .ok) else if 2 ≤ s.req.cancelSlots.length then (s, .busy)
      else (withCancel (changed s r.tag (fun q => { q with mark := true })) r, .ok) := by
  unfold cancelRequest
  rw [hst]
  dsimp only
  rw [hon]
  simp only [cancelSlotsFull_iff]
  rfl

omit hr htags in
/-- A PENDING or GRANTED request with a record: its CANCEL frame is placed, if a slot is free (R142). -/
theorem cancelRequest_announced (hst : r.state = .granted ∨ r.state = .pending ∧ r.start ≠ none) :
    cancelRequest s r = if 2 ≤ s.req.cancelSlots.length then (s, .busy)
      else (withCancel (changed s r.tag (fun q => { q with state := .cancelling })) r, .ok) := by
  unfold cancelRequest
  obtain hst | ⟨hst, hstart⟩ := hst
  · rw [hst]
    dsimp only
    rw [if_neg (fun h => by cases h.1)]
    simp only [cancelSlotsFull_iff]
    rfl
  · rw [hst]
    dsimp only
    rw [if_neg (fun h => hstart h.2)]
    simp only [cancelSlotsFull_iff]
    rfl

/-- A PENDING request without a record leaves at once (R142). -/
theorem cancelRequest_unannounced (hst : r.state = .pending) (hstart : r.start = none) :
    cancelRequest s r = (departed s r .cancelled .none none, .ok) := by
  unfold cancelRequest
  rw [hst]
  dsimp only
  rw [if_pos ⟨rfl, hstart⟩]
  exact congrArg (·, Status.ok) (State.leaveRequest_departed hr htags .cancelled .none)

/-- The list as CANCEL leaves it: the request is CANCELLING in its place. -/
theorem changed_request (f : Request → Request) (hf : ∀ q, (f q).tag = q.tag) :
    (changed s r.tag f).request r.tag = some (f r) ∧ f r ∈ (changed s r.tag f).req.list
      ∧ tagsDiffer (changed s r.tag f) := by
  have hmem : f r ∈ (changed s r.tag f).req.list := List.mem_map.2 ⟨r, hr, if_pos rfl⟩
  have hsame : (changed s r.tag f).req.list.map Request.tag = s.req.list.map Request.tag := by
    show (s.req.list.map _).map Request.tag = _
    rw [List.map_map]
    refine List.map_congr_left fun q _ => ?_
    show (if q.tag = r.tag then f q else q).tag = q.tag
    split
    · exact hf q
    · rfl
  have hdiffer : tagsDiffer (changed s r.tag f) := by rw [tagsDiffer, hsame]; exact htags
  have hfound := State.request_eq_some _ _ hmem hdiffer
  rw [hf r] at hfound
  exact ⟨hfound, hmem, hdiffer⟩

end Cancel

/-- Where the start tick is reached, the start finds the CANCEL frame in its slot (R150). -/
theorem startTickReached_after_cancel {s : State} {r : Request} (hr : r ∈ s.req.list) (htags : tagsDiffer s)
    {start : Tick} (hstart : r.start = some start) (hreached : reached start s.now = true)
    (hoff : s.onBus (.cancel r.tag) = false) :
    let u := (withCancel (changed s r.tag (fun q => { q with state := .cancelling })) r).answer .ok []
    exec (.startTickReached r.tag) u = .next (departed u { r with state := .cancelling } .cancelled .none none) := by
  intro u
  obtain ⟨hfound, hmem, hdiffer⟩ := changed_request hr htags (fun q => { q with state := .cancelling }) fun _ => rfl
  have hdue : startDue r.tag u = true := (startDue_iff r.tag u).2 ⟨_, start, hfound, hstart, hreached, .inr ⟨rfl, hoff⟩⟩
  have hexec : exec (.startTickReached r.tag) u = execStartTickReached r.tag u := rfl
  rw [hexec]
  obtain ⟨hnot, -⟩ | ⟨q, -, hq, hgranted, -⟩ | ⟨q, -, -, -, heq⟩ := execStartTickReached_cases r.tag u
  · rw [hdue] at hnot
    cases hnot
  · rw [show u.request r.tag = _ from hfound] at hq
    cases hq
    cases hgranted
  · rw [heq]
    exact congrArg _ (State.leaveRequest_departed (s := u) (r := { r with state := .cancelling }) hmem hdiffer
      .cancelled .none)

/-- Where the start tick is reached, no attempt puts the CANCEL frame on LINK before the start (R150). -/
theorem attemptStart_after_cancel {s : State} {r : Request} {start : Tick} (hstart : r.start = some start)
    (hreached : reached start s.now = true) (hslots : ∀ c ∈ s.req.cancelSlots, c.tag ≠ r.tag)
    (hoff : s.onBus (.cancel r.tag) = false) (f : Request → Request) :
    ∃ v, exec .attemptStart ((withCancel (changed s r.tag f) r).answer .ok []) = .next v
      ∧ v.onBus (.cancel r.tag) = false := by
  have hlate : ∀ c ∈ ((withCancel (changed s r.tag f) r).answer .ok []).req.cancelSlots, c.tag = r.tag →
      c.late = true := by
    intro c hc htag
    obtain hc | hc := List.mem_append.1 hc
    · exact absurd htag (hslots c hc)
    · rw [List.mem_singleton.1 hc]
      show r.start.any _ = true
      rw [hstart]
      exact decide_eq_true ((reached_iff _ _).1 hreached)
  refine ⟨_, rfl, Bool.eq_false_iff.2 fun hon => ?_⟩
  have hoffered : ∀ v : State, (v = ((withCancel (changed s r.tag f) r).answer .ok []).attempt
      ∨ v = (withCancel (changed s r.tag f) r).answer .ok []) → v.onBus (.cancel r.tag) = true → False := by
    rintro v (rfl | rfl) hv
    · obtain h | h := State.attempt_onBus hv
      · obtain ⟨c, hc, htag, hnot⟩ := offered_cancel h
        rw [hlate c hc htag] at hnot
        cases hnot
      · exact Bool.false_ne_true (hoff.symm.trans h)
    · exact Bool.false_ne_true (hoff.symm.trans hv)
  refine hoffered _ ?_ hon
  split
  · exact .inl rfl
  · exact .inr rfl

/-- Settles O15. -/
theorem cancelAnswersByRequestState : Obligations.CancelAnswersByRequestState := by
  intro s tag hopen
  refine ⟨fun hnone => by rw [exec_cancel_open hopen, (request_none_iff s tag).2 hnone]; rfl, fun r hr htag htags => ?_⟩
  subst htag
  have hexec := exec_cancel_listed hopen hr htags
  refine ⟨fun hst => ?_, fun hst hoff => ⟨fun hnot => ?_, fun hbegins => ?_⟩, fun hst hon hmark hroom => ?_,
    fun hst hon hmark hfull => ?_, fun hst hon hmark => ?_, fun hst => ?_, fun hst hstart => ?_,
    fun hst hroom => ?_, fun start hst hstart hreached hroom hslots hoff => ⟨?_, ?_⟩, fun hst hfull => ?_,
    fun hst => ?_⟩
  · rw [hexec, cancelRequest_waiting hr htags hst]
  · rw [hexec, cancelRequest_sending_off hr htags hst hoff, State.withholdBoundary,
      if_neg (fun h => hnot ((offered_claim_iff s r.tag).1 h))]
  · rw [hexec, cancelRequest_sending_off hr htags hst hoff, State.withholdBoundary,
      if_pos ((offered_claim_iff s r.tag).2 hbegins)]
    rfl
  · rw [hexec, cancelRequest_sending_on hst hon, hmark, if_neg Bool.false_ne_true, if_neg (by omega)]
  · rw [hexec, cancelRequest_sending_on hst hon, hmark, if_neg Bool.false_ne_true, if_pos hfull]
  · rw [hexec, cancelRequest_sending_on hst hon, hmark, if_pos rfl]
  · rw [hexec]
    unfold cancelRequest
    rw [hst]
  · rw [hexec, cancelRequest_unannounced hr htags hst hstart]
  · rw [hexec, cancelRequest_announced hst, if_neg (by omega)]
  · exact startTickReached_after_cancel hr htags hstart hreached hoff
  · exact attemptStart_after_cancel hstart hreached hslots hoff _
  · rw [hexec, cancelRequest_announced hst, if_pos hfull]
  · rw [hexec]
    unfold cancelRequest
    rw [hst]

end Sys2Proof.Machine
end

section
/-!
PROOFS. JOIN and RESUME (O18), and the bytes of the local port (O21).
-/

namespace Sys2Proof.Machine

open Sys2Proof.Said

/-! ### The check registers (R183, R184) -/

/-- One step of a check register, bit by bit. -/
theorem getLsbD_crcStep {w : Nat} (poly reg : BitVec w) (bit : Bool) {i : Nat} (hi : i < w) :
    (crcStep poly reg bit).getLsbD i
      = (decide (0 < i) && reg.getLsbD (i - 1) ^^ (bit != reg.getLsbD (w - 1)) && poly.getLsbD i) := by
  have hshift : (reg <<< 1).getLsbD i = (decide (0 < i) && reg.getLsbD (i - 1)) := by
    rw [BitVec.getLsbD_shiftLeft, decide_eq_true hi, Bool.true_and]
    cases i <;> simp
  have hmsb : reg.msb = reg.getLsbD (w - 1) := BitVec.msb_eq_getLsbD_last reg
  unfold crcStep
  rw [hmsb, bne_comm]
  split
  · next h => rw [BitVec.getLsbD_xor, hshift, h, Bool.true_and]
  · next h => rw [hshift, Bool.eq_false_iff.2 h, Bool.false_and, Bool.xor_false]

theorem crc8_snoc (bits : List Bool) (b : Bool) : crc8 (bits ++ [b]) = crcStep 0x07#8 (crc8 bits) b := by
  simp only [crc8, List.foldl_append, List.foldl_cons, List.foldl_nil]

theorem crc8_poly {i : Nat} (hi : i < 8) : (0x07#8).getLsbD i = decide (i = 2 ∨ i = 1 ∨ i = 0) := by
  decide +revert

theorem bitsOf_byte (b : Byte) : bitsOf b = (List.range 8).map (fun i => b.getLsbD (7 - i)) := by
  refine List.map_congr_left fun i hi => ?_
  have hlt := List.mem_range.1 hi
  rw [BitVec.getMsbD, decide_eq_true hlt, Bool.true_and]

/-- The first `n` bytes give eight bits each. -/
theorem flatten_bytes (f : Nat → Byte) (n : Nat) : ((List.range n).map (fun i => bitsOf (f i))).flatten
    = (List.range (8 * n)).map (fun j => (f (j / 8)).getLsbD (7 - j % 8)) := by
  induction n with
  | zero => rfl
  | succ n ih =>
    rw [List.range_succ, List.map_append, List.flatten_append, ih, Nat.mul_succ, List.range_add, List.map_append,
      List.map_map]
    refine congrArg _ ?_
    rw [List.map_singleton, List.flatten_singleton, bitsOf_byte]
    refine List.map_congr_left fun i hi => ?_
    have hlt := List.mem_range.1 hi
    show _ = (f ((8 * n + i) / 8)).getLsbD (7 - (8 * n + i) % 8)
    rw [show (8 * n + i) / 8 = n by omega, show (8 * n + i) % 8 = i by omega]

theorem imageDigest_eq (img : Image) : imageDigest img
    = crc8 ((List.range 96).map (fun j => (imageByte img (j / 8)).getLsbD (7 - j % 8))) :=
  congrArg crc8 (flatten_bytes (imageByte img) 12)

/-! ### Validation (R7) -/

theorem validClass_iff (img : Image) (c : ClassNo) : validClass (imageByte img 2).toNat (imageClass img c) = true
    ↔ (classOn img c.toNat → classFit img c.toNat) := by
  rw [imageClass_eq]
  have hlt := (imageByte img (15 + 4 * c.toNat)).isLt
  simp only [validClass, Bool.or_eq_true, Bool.not_eq_true', decide_eq_false_iff_not, Bool.and_eq_true,
    decide_eq_true_eq, and_assoc, classFit, classOn, BitVec.le_def]
  constructor
  · rintro (hoff | ⟨h1, h2⟩) hon
    · exact absurd hon hoff
    · exact ⟨by omega, h2⟩
  · intro h
    by_cases hon : 128 ≤ (imageByte img (15 + 4 * c.toNat)).toNat
    · obtain ⟨h1, h2⟩ := h hon
      exact .inr ⟨by omega, h2⟩
    · exact .inl hon

theorem forall_class (P : Nat → Prop) : (∀ c ∈ allClasses, P c.toNat) ↔ ∀ c < 8, P c := by
  constructor
  · intro h c hc
    have hall : ∀ c : ClassNo, c ∈ allClasses := by decide
    have := h (BitVec.ofNat 3 c) (hall _)
    rwa [BitVec.toNat_ofNat, Nat.mod_eq_of_lt hc] at this
  · exact fun h c _ => h _ c.isLt

theorem exists_class (P : Nat → Prop) : (∃ c ∈ allClasses, P c.toNat) ↔ ∃ c < 8, P c := by
  have h := not_congr (forall_class fun c => ¬P c)
  push Not at h
  exact h

theorem validImage_iff (img : Image) : validImage img = true ↔ accepted img := by
  have hall : allClasses.all (fun c => validClass (imageByte img 2).toNat (imageClass img c)) = true
      ↔ ∀ c < 8, classOn img c → classFit img c := by
    rw [List.all_eq_true, ← forall_class fun c => classOn img c → classFit img c]
    exact forall₂_congr fun c _ => validClass_iff img c
  have hany : allClasses.any (fun c => (imageClass img c).enabled) = true ↔ ∃ c < 8, classOn img c := by
    rw [List.any_eq_true, ← exists_class fun c => classOn img c]
    exact exists_congr fun c => and_congr_right fun _ => by rw [imageClass_eq]; exact decide_eq_true_iff
  unfold validImage accepted
  simp only [Bool.and_eq_true, hany, decide_eq_true_eq, imageParams_eq, Params.minLead, BitVec.le_def, and_assoc]
  rw [hall]
  rfl

/-! ### The entry to LISTENING (R82, R83, R91, R102) -/

theorem State.enterListening_eq (s : State) : s.enterListening = (listening s).beginObserving := rfl

/-- The fall at the entry finds nothing that it answers: the table is empty, and what is listed fires (R147). -/
theorem State.fallSettled_eq {s : State} (htable : s.table = []) (hlist : ∀ r ∈ s.req.list, r.state = .firing) :
    s.fallSettled = s := by
  have htags : s.exposedTags = [] := by unfold State.exposedTags; rw [htable]; rfl
  have hempty : { s with table := s.table.filter (fun x : ClaimRecord => decide (x.state = .confirmed)) } = s := by
    rw [htable, List.filter_nil, ← htable]
  unfold State.fallSettled
  rw [hempty, State.settle_all_stay]
  intro r hr
  unfold State.fallFate
  rw [htags]
  unfold Request.onFall
  rw [hlist r hr]
  rfl

theorem State.enterListening_high {s : State} (h : stopIsLow s = false) : s.enterListening = listening s := by
  rw [stopIsLow_eq] at h
  exact if_neg (Bool.eq_false_iff.1 h)

theorem State.enterListening_low {s : State} (h : stopIsLow s = true) (hquiet : s.bus.transmit = .quiet)
    (htable : s.table = []) (hlist : ∀ r ∈ s.req.list, r.state = .firing) :
    s.enterListening = listeningUnderPulse s := by
  rw [stopIsLow_eq] at h
  have hfall : s.enterListening = (listening s).takeFall := if_pos h
  rw [hfall, State.takeFall_eq, State.fallSettled_eq (s := listening s) htable hlist, unsyncRoster_eq]
  unfold listeningUnderPulse
  simp only [← hquiet]
  rfl

/-- Outside the states that receive nothing is on LINK or in the table, and what is listed in OFFLINE or SILENT
fires. -/
theorem stationInv.asleep {s : State} (h : stationInv s) (hoff : s.ctrl.station = .offline ∨ s.ctrl.station = .silent) :
    s.bus.transmit = .quiet ∧ s.table = [] ∧ ∀ r ∈ s.req.list, r.state = .firing := by
  obtain ⟨-, -, hwithdrawn, ⟨hempty, hfiring⟩, -⟩ := h
  obtain ⟨-, hquiet, -, -, htable, -⟩ := hwithdrawn (by obtain h | h := hoff <;> rw [h] <;> rfl)
  refine ⟨hquiet, htable, fun r hr => ?_⟩
  obtain hoff | hsilent := hoff
  · rw [(hempty (.inl hoff)).1] at hr
    cases hr
  · exact hfiring hsilent r hr

theorem exec_join_offline {s : State} (hopen : portOpen s) (hoff : s.ctrl.station = .offline) : exec .join s = .next
    (((s.port.image.filter validImage).map fun img =>
      (State.enterListening { s with port := { s.port with digest := some (imageDigest img) } }).answer .ok []).getD
      (s.answer .badConfig [])) := by
  show execJoin s = _
  rw [execJoin, onPort_of_portOpen hopen, if_neg (not_not.2 hoff)]
  cases s.port.image with
  | none => rfl
  | some img =>
    dsimp only
    cases hvalid : validImage img <;> simp [Option.filter, hvalid]

/-- Settles O18. -/
theorem joinAndResumeListen : Obligations.JoinAndResumeListen := by
  refine ⟨imageDigest_eq, ⟨rfl, fun bits b i hi => ?_⟩,
    fun s hopen hstation => ⟨fun hon => ?_, fun hoff hnone => ?_, fun img hoff himage hvalid => ⟨fun hhigh => ?_,
      fun hlow => ?_⟩⟩, fun s hopen hstation => ⟨fun hnot => ?_, fun hsilent hhigh => ?_, fun hsilent hlow => ?_⟩⟩
  · rw [crc8_snoc, getLsbD_crcStep _ _ _ hi, crc8_poly hi]
  · show execJoin s = _
    rw [execJoin, onPort_of_portOpen hopen, if_pos hon]
  · rw [exec_join_offline hopen hoff]
    cases himage : s.port.image with
    | none => rfl
    | some img =>
      have hinvalid : validImage img = false := Bool.eq_false_iff.2 fun h => hnone img himage ((validImage_iff img).1 h)
      rw [Option.filter_some_neg (by simp [hinvalid])]
      rfl
  · rw [exec_join_offline hopen hoff, himage, Option.filter_some_pos ((validImage_iff img).2 hvalid), Option.map_some,
      Option.getD_some, State.enterListening_high
        (s := { s with port := { s.port with digest := some (imageDigest img) } }) hhigh]
  · obtain ⟨hquiet, htable, hlist⟩ := hstation.asleep (.inl hoff)
    rw [exec_join_offline hopen hoff, himage, Option.filter_some_pos ((validImage_iff img).2 hvalid), Option.map_some,
      Option.getD_some, State.enterListening_low
        (s := { s with port := { s.port with digest := some (imageDigest img) } }) hlow hquiet htable hlist]
  · show execResume s = _
    rw [execResume, onPort_of_portOpen hopen, if_neg hnot]
  · show execResume s = _
    rw [execResume, onPort_of_portOpen hopen, if_pos hsilent, State.enterListening_high hhigh]
  · obtain ⟨hquiet, htable, hlist⟩ := hstation.asleep (.inr hsilent)
    show execResume s = _
    rw [execResume, onPort_of_portOpen hopen, if_pos hsilent, State.enterListening_low hlow hquiet htable hlist]

/-! ### The bytes of the local port (R163 to R165, R170 to R181) -/

theorem tickBytes_append (t : Tick) :
    t.extractLsb' 24 8 ++ t.extractLsb' 16 8 ++ t.extractLsb' 8 8 ++ t.extractLsb' 0 8 = t := by
  refine BitVec.eq_of_getLsbD_eq fun i hi => ?_
  simp only [BitVec.getLsbD_append, BitVec.getLsbD_extractLsb']
  by_cases h8 : i < 8
  · simp [h8]
  · by_cases h16 : i < 16
    · simp [h8, show i - 8 < 8 by omega, show 8 + (i - 8) = i by omega]
    · by_cases h24 : i < 24
      · simp [h8, show ¬(i - 8 < 8) by omega, show i - 8 - 8 < 8 by omega, show 16 + (i - 8 - 8) = i by omega]
      · simp [h8, show ¬(i - 8 < 8) by omega, show ¬(i - 8 - 8 < 8) by omega, show i - 8 - 8 - 8 < 8 by omega,
          show 24 + (i - 8 - 8 - 8) = i by omega]

theorem commandOf_unknown {code : Byte} (h : paramCount code = none) (ps : List Byte) :
    commandOf code ps = .unknownCommand code := by
  unfold commandOf
  split <;> simp_all [paramCount]

theorem wellFormed_commandOf (code : Byte) (ps : List Byte) : (commandOf code ps).wellFormed = true := by
  cases h : paramCount code with
  | none =>
    rw [commandOf_unknown h, Instr.wellFormed, h]
    rfl
  | some n =>
    unfold commandOf
    split <;> simp_all [paramCount, Instr.wellFormed]

theorem portDecode_cons (code : Byte) (ps : List Byte) : portDecode (code :: ps)
    = if spellsCommand (code :: ps) then commandOf code ps else .transactionDiscarded (code :: ps) := rfl

theorem paramTick_tickBytes (t : Tick) (before after : List Byte) :
    paramTick (before ++ tickBytes t ++ after) before.length = t := by
  have hbyte : ∀ k b, (tickBytes t)[k]? = some b →
      paramByte (before ++ tickBytes t ++ after) (before.length + k) = b := by
    intro k b hk
    have hlt : k < (tickBytes t).length := (List.getElem?_eq_some_iff.1 hk).1
    rw [paramByte, List.getD_eq_getElem?_getD, List.append_assoc, List.getElem?_append_right (by omega),
      Nat.add_sub_cancel_left, List.getElem?_append_left hlt, hk]
    rfl
  have hfirst := hbyte 0 _ rfl
  rw [Nat.add_zero] at hfirst
  rw [paramTick, hfirst, hbyte 1 _ rfl, hbyte 2 _ rfl, hbyte 3 _ rfl]
  exact tickBytes_append t

theorem paramImage_append (img : Image) (more : List Byte) : paramImage (img.toList ++ more) = img := by
  refine Vector.ext fun i hi => ?_
  unfold paramImage
  rw [Vector.getElem_ofFn, paramByte, List.getD_eq_getElem?_getD, List.getElem?_append_left
    (by rw [Vector.length_toList]; exact hi), ← Vector.getElem_toList (h := by rw [Vector.length_toList]; exact hi),
    List.getElem?_eq_getElem]
  rfl

/-- What is sent for a command is read as it, whatever follows the last parameter byte. -/
theorem portDecode_append {c : Instr} {bytes : List Byte} (hwell : c.wellFormed = true)
    (hsent : portEncode c = some bytes) (hwhole : ∀ received, c ≠ .transactionDiscarded received)
    (more : List Byte) : portDecode (bytes ++ more) = c := by
  cases c with
  | transactionDiscarded received => exact absurd rfl (hwhole received)
  | readState | readTime | readEvents | fetchResult | join | leave | resume | readConfig | readErrorRecord | clearError
  | readCounters | clearCounters | query _ | cancel _ | abort _ | readTable _ | readRoster _ =>
    cases hsent
    rfl
  | submit tag cls notBefore deadline =>
    cases hsent
    have hfirst := paramTick_tickBytes notBefore [tag, cls] (tickBytes deadline ++ more)
    have hsecond := paramTick_tickBytes deadline ([tag, cls] ++ tickBytes notBefore) more
    rw [← List.append_assoc] at hfirst
    show Instr.submit tag cls (paramTick ([tag, cls] ++ tickBytes notBefore ++ tickBytes deadline ++ more) 2)
      (paramTick ([tag, cls] ++ tickBytes notBefore ++ tickBytes deadline ++ more) 6) = _
    exact congrArg₂ (Instr.submit tag cls) hfirst hsecond
  | configure img =>
    cases hsent
    show portDecode (48 :: (img.toList ++ more)) = _
    rw [portDecode_configure, if_pos (by rw [List.length_append, Vector.length_toList]; omega), paramImage_append]
  | unknownCommand code =>
    cases hsent
    have hnone : paramCount code = none := Option.isNone_iff_eq_none.1 hwell
    have hspells : spellsCommand (code :: more) = true := by rw [spellsCommand, hnone]
    show portDecode (code :: more) = _
    rw [portDecode_cons, if_pos hspells, commandOf_unknown hnone]
  | _ => cases hsent

theorem portDecode_discarded {received : List Byte} (hwell : (Instr.transactionDiscarded received).wellFormed = true) :
    portDecode received = .transactionDiscarded received := by
  cases received with
  | nil => rfl
  | cons code ps =>
    have hcut : spellsCommand (code :: ps) = false := (Bool.not_eq_true' _).mp hwell
    rw [portDecode_cons, hcut]
    rfl

/-- Settles O21. -/
theorem portBytesRoundTrip : Obligations.PortBytesRoundTrip := by
  refine ⟨⟨rfl, fun b => ⟨rfl, rfl, rfl, rfl, rfl⟩, fun _ _ _ _ => rfl, fun _ => rfl⟩,
    fun c bytes hwell hsent => ⟨?_, fun more hwhole => portDecode_append hwell hsent hwhole more⟩,
    fun received => ?_⟩
  · by_cases hwhole : ∃ received, c = .transactionDiscarded received
    · obtain ⟨received, rfl⟩ := hwhole
      cases hsent
      exact portDecode_discarded hwell
    · have h := portDecode_append hwell hsent (not_exists.1 hwhole) []
      rwa [List.append_nil] at h
  · cases received with
    | nil => rfl
    | cons code ps =>
      rw [portDecode_cons]
      split
      · exact wellFormed_commandOf code ps
      · next hcut => exact (Bool.not_eq_true' _).mpr (Bool.eq_false_iff.2 hcut)

end Sys2Proof.Machine
end

section
/-!
PROOFS. Synchronisation, the beginning of a frame, arbitration and readback (O22 to O26).
-/

namespace Sys2Proof.Machine

open Sys2Proof.Said

/-! ### Synchronisation (R45, R46, R53, R83) -/

/-- The receive side holds synchronisation (R44). -/
def Receive.synced : Receive → Bool
  | .unsynchronised _ => false
  | .outOfFrame _ | .inFrame _ => true

/-- An owed JOIN is placed in LISTENING with synchronisation, and nowhere else (R83). -/
theorem State.placeJoin_eq (s : State) : s.placeJoin = { s with req := { s.req with joinSlot := s.req.joinSlot
    || (decide (s.ctrl.station = .listening) && s.ctrl.joinOwed && s.bus.receive.synced) } } := by
  unfold State.placeJoin
  cases hstation : s.ctrl.station with
  | listening =>
    cases hreceive : s.bus.receive with
    | unsynchronised run => simp [Receive.synced]
    | outOfFrame idle => cases s.ctrl.joinOwed <;> simp [Receive.synced]
    | inFrame cells => cases s.ctrl.joinOwed <;> simp [Receive.synced]
  | offline | active | quiesce | silent | configFault => simp

/-- Settles O22. -/
theorem synchronisationIdleAndStartBit : Obligations.SynchronisationIdleAndStartBit := by
  refine fun s n => ⟨fun hon hreceive hn => ?_, fun hreceive hn hdefer => ?_, fun hreceive hlast => ?_⟩
  · show onEvent syncDue State.gainSync s = _
    rw [onEvent_due _ _ s ((syncDue_iff s).2 ⟨hon, n, hreceive, hn⟩), State.gainSync, State.placeJoin_eq]
    dsimp only [Receive.synced]
    rw [Bool.and_true]
  · show execIdleCount24 s = _
    exact onEvent_due _ _ s (Bool.and_eq_true_iff.2 ⟨hdefer, (longIdle_iff _).2 ⟨n, hreceive, hn⟩⟩)
  · show execStartBit s = _
    exact onEvent_due _ _ s ((startBitDue_iff s).2 ⟨hlast, n, hreceive⟩)

/-! ### The beginning of a frame (R47, R49, R53, R133) -/

/-- The attempt uses its boundary, and at an idle count of 24 DEFER is clear. -/
theorem State.atBoundary_eq {s : State} {n : Nat} (h : s.bus.receive = .outOfFrame n) :
    s.clearDeferAt24.useBoundary
      = { s with bus := { s.bus with attempted := true, defer := s.bus.defer && decide (n < 24) } } := by
  have hidle : (!s.bus.receive.longIdle) = decide (n < 24) := by
    rw [h]
    show (!decide (24 ≤ n)) = _
    rw [← decide_not]
    simp only [not_le]
  unfold State.clearDeferAt24
  rw [hidle]
  rfl

/-- The frame begins with the digest that is held. -/
theorem State.beginFrame_begun {s : State} {n : Nat} {d : Byte} (hreceive : s.bus.receive = .outOfFrame n)
    (hdigest : s.port.digest = some d) (slot : SlotRef) (p : Payload) :
    s.clearDeferAt24.useBoundary.beginFrame slot p = { s with bus := begun s n p d slot } := by
  rw [State.atBoundary_eq hreceive]
  unfold State.beginFrame State.frameWith
  rw [show ({ s with bus := { s.bus with
    attempted := true, defer := s.bus.defer && decide (n < 24) } } : State).port.digest = some d from hdigest]
  rfl

theorem exec_attemptStart {s : State} {slot : SlotRef} (h : offered s = some slot) :
    exec .attemptStart s = .next s.attempt := by
  show onEvent attemptDue State.attempt s = _
  exact onEvent_due _ _ s (by rw [attemptDue, h]; rfl)

theorem State.attempt_cancel {s : State} {tag : Byte} (h : offered s = some (.cancel tag)) :
    s.attempt = s.clearDeferAt24.useBoundary.attemptCancel tag := by
  unfold State.attempt
  rw [h]

theorem State.attempt_claim {s : State} {tag : Byte} (h : offered s = some (.claim tag)) :
    s.attempt = s.clearDeferAt24.useBoundary.attemptClaim tag := by
  unfold State.attempt
  rw [h]

theorem State.attempt_join {s : State} (h : offered s = some .join) :
    s.attempt = s.clearDeferAt24.useBoundary.beginFrame .join (.join s.ownGroup) := by
  unfold State.attempt
  rw [h]

/-- The first CANCEL that was not placed at its start tick is the one that is offered (R47, R150). -/
theorem find_first_early {before rest : List CancelSlot} {c : CancelSlot} (hbefore : ∀ b ∈ before, b.late = true)
    (hc : c.late = false) (p : CancelSlot → Bool) (hp : p c = true) :
    (before ++ c :: rest).find? (fun x => p x && !x.late) = some c := by
  rw [List.find?_append, List.find?_eq_none.2 fun b hb => by simp [hbefore b hb], Option.none_or,
    List.find?_cons_of_pos (by simp [hc, hp])]

/-- Settles O23. -/
theorem cancelAndJoinFramesBegin : Obligations.CancelAndJoinFramesBegin := by
  intro s n d hboundary hdigest
  obtain ⟨hreceive, hn, -⟩ := id hboundary
  refine ⟨fun before c rest hst hslots hbefore hc => ?_, fun hst hjoin => ?_⟩
  · have hfirst : s.req.cancelSlots.find? (fun c => !c.late) = some c := by
      have h := find_first_early (rest := rest) hbefore hc (fun _ => true) rfl
      rw [hslots]
      simpa using h
    have hoffered : offered s = some (.cancel c.tag) := by
      rw [offered_of_boundary hboundary, offer, if_neg (by omega), hst, hfirst]
    rw [exec_attemptStart hoffered, State.attempt_cancel hoffered, State.attemptCancel]
    have hfound : s.clearDeferAt24.useBoundary.req.cancelSlots.find? (fun x => x.tag == c.tag && !x.late) = some c := by
      show s.req.cancelSlots.find? _ = _
      rw [hslots]
      exact find_first_early hbefore hc (fun x => x.tag == c.tag) (beq_self_eq_true _)
    rw [hfound]
    exact congrArg _ (State.beginFrame_begun hreceive hdigest _ _)
  · have hoffered : offered s = some .join := by
      rw [offered_of_boundary hboundary, offer, if_neg (by omega), hst]
      exact if_pos hjoin
    rw [exec_attemptStart hoffered, State.attempt_join hoffered, State.beginFrame_begun hreceive hdigest]

/-- Settles O24. -/
theorem claimFrameIsBuiltAtTheAttempt : Obligations.ClaimFrameIsBuiltAtTheAttempt := by
  intro s n d r hboundary hdigest hst hlate hdefer hr htags hclaim u
  obtain ⟨hreceive, -⟩ := id hboundary
  have hoffered : offered s = some (.claim r.tag) :=
    (offered_claim_iff s r.tag).2 ⟨hst, hlate, hclaim, n, hboundary, hdefer⟩
  have hexec : exec .attemptStart s = .next (u.attemptClaim r.tag) := by
    rw [exec_attemptStart hoffered, State.attempt_claim hoffered, State.atBoundary_eq hreceive]
  have hfound : u.request r.tag = some r := State.request_eq_some u r hr htags
  have hsearch : earliestStart u r u.predictedEnd = earliestStart s r (s.now + 75) := rfl
  unfold State.attemptClaim at hexec
  rw [hfound] at hexec
  dsimp only at hexec
  rw [hsearch] at hexec
  refine ⟨fun t ht => ?_, fun limit hlimit => ?_, fun hfull => ?_⟩
  · rw [ht] at hexec
    rw [hexec]
    have hbegun := State.beginFrame_begun (s := changed s r.tag (fun q => { q with claimSeq := some s.bus.ownSeq }))
      hreceive hdigest (.claim r.tag)
      (.claim r.cls s.ownGroup (s.classOf r.cls).weight ((t - (s.now + 75)).setWidth 16))
    rw [State.atBoundary_eq (s := changed s r.tag _) hreceive] at hbegun
    exact congrArg _ hbegun
  · rw [hlimit] at hexec
    rw [hexec]
    exact congrArg _ (State.leaveRequest_departed (s := u) hr htags .denied limit)
  · rw [hfull] at hexec
    exact hexec

/-! ### Arbitration and readback (R50, R52, R134, R143, R144) -/

section AttemptOver

variable {s : State} {r : Request} (hr : r ∈ s.req.list) (htags : tagsDiffer s)
include hr htags

/-- The end of the attempt of a claim, for its SENDING request (R134, R143). -/
theorem State.reportAttemptOver_claim (hst : r.state = .sending) : s.reportAttemptOver (.claim r.tag)
    = if r.mark = true then departed s r .cancelled .none none else s := by
  have hothers : ∀ q ∈ s.req.list, q.tag ≠ r.tag → q.onAttemptOver (.claim r.tag) s.now = .stay q := fun q _ hq => by
    unfold Request.onAttemptOver
    rw [if_neg (fun h => hq (SlotRef.claim.inj h.1).symm), if_neg (fun h => nomatch h.1)]
  unfold State.reportAttemptOver
  split
  · next hmark =>
    exact State.settle_departed (why := .none) hr htags (if_pos ⟨rfl, hst, hmark⟩) hothers
  · next hmark =>
    refine State.settle_all_stay _ _ _ fun q hq => ?_
    by_cases hqr : q.tag = r.tag
    · rw [eq_of_tag_eq _ htags q r hq hr hqr]
      unfold Request.onAttemptOver
      rw [if_neg (fun h => hmark h.2.2), if_neg (fun h => nomatch h.1)]
    · exact hothers q hq hqr

/-- The end of the attempt of a CANCEL, for its CANCELLING request (R144). -/
theorem State.reportAttemptOver_cancel (hst : r.state = .cancelling) : s.reportAttemptOver (.cancel r.tag)
    = if r.start.any (fun t => reached t s.now) = true then departed s r .cancelled .none none else s := by
  have hothers : ∀ q ∈ s.req.list, q.tag ≠ r.tag → q.onAttemptOver (.cancel r.tag) s.now = .stay q := fun q _ hq => by
    unfold Request.onAttemptOver
    rw [if_neg (fun h => nomatch h.1), if_neg (fun h => hq (SlotRef.cancel.inj h.1).symm)]
  have hown : r.onAttemptOver (.cancel r.tag) s.now
      = if r.start.any (fun t => reached t s.now) = true then .leave .cancelled .none else .stay r := by
    unfold Request.onAttemptOver
    rw [if_neg (fun h => nomatch h.1)]
    exact if_congr ⟨fun h => h.2.2, fun h => ⟨rfl, hst, h⟩⟩ rfl rfl
  unfold State.reportAttemptOver
  split
  · next hreached =>
    exact State.settle_departed (why := .none) hr htags (hown.trans (if_pos hreached)) hothers
  · next hnot =>
    refine State.settle_all_stay _ _ _ fun q hq => ?_
    by_cases hqr : q.tag = r.tag
    · rw [eq_of_tag_eq _ htags q r hq hr hqr, hown, if_neg hnot]
    · exact hothers q hq hqr

end AttemptOver

/-- A JOIN is no request's frame. -/
theorem State.reportAttemptOver_join (s : State) : s.reportAttemptOver .join = s :=
  State.settle_all_stay _ _ _ fun q _ => by
    unfold Request.onAttemptOver
    rw [if_neg (fun h => nomatch h.1), if_neg (fun h => nomatch h.1)]

/-- Without its request listed the end of an attempt concerns nobody. -/
theorem State.reportAttemptOver_absent {s : State} {slot : SlotRef} {tag : Byte}
    (hslot : slot = .claim tag ∨ slot = .cancel tag) (h : ∀ q ∈ s.req.list, q.tag ≠ tag) :
    s.reportAttemptOver slot = s := by
  refine State.settle_all_stay _ _ _ fun q hq => ?_
  unfold Request.onAttemptOver
  obtain rfl | rfl := hslot
  · rw [if_neg (fun h' => h q hq (SlotRef.claim.inj h'.1).symm), if_neg (fun h' => nomatch h'.1)]
  · rw [if_neg (fun h' => nomatch h'.1), if_neg (fun h' => h q hq (SlotRef.cancel.inj h'.1).symm)]

theorem State.takeWaitingMove_not {s : State} (h : s.ctrl.moveWaits = false) : s.takeWaitingMove = s := by
  unfold State.takeWaitingMove
  rw [h]
  rfl

theorem State.takeWaitingMove_eq (s : State) : s.takeWaitingMove
    = if s.ctrl.moveWaits = true ∧ s.ctrl.station = .listening then activated s else s := by
  unfold State.takeWaitingMove
  exact if_congr (by simp) rfl rfl

/-- A departing request leaves the Station Controller as it is. -/
theorem departed_ctrl (s : State) (r : Request) (o : ResultOutcome) (why : Reason) (start : Option Tick) :
    (departed s r o why start).ctrl = s.ctrl := rfl

theorem exec_arbitrationLost {s : State} {x : Sending} {cells : List Cell} (hx : s.bus.transmit = .arbitrating x)
    (hcells : s.bus.receive = .inFrame cells) (hread : cells.getLast? = some false)
    (hsent : x.frame.cells[cells.length - 1]? = some true) : exec .arbitrationLost s
      = .next (State.reportAttemptOver { s with bus := { s.bus with transmit := .quiet } } x.slot).takeWaitingMove := by
  show onEvent lossDue State.loseArbitration s = _
  rw [onEvent_due _ _ s ((lossDue_iff s).2 ⟨x, cells, hx, hcells, hread, hsent⟩), State.loseArbitration, hx]
  rfl

/-- Settles O25. -/
theorem arbitrationIsLostOrWon : Obligations.ArbitrationIsLostOrWon := by
  intro s x cells hx hcells u
  refine ⟨fun hread hsent => ?_, fun hlength htake => ?_⟩
  · have hexec := exec_arbitrationLost hx hcells hread hsent
    refine ⟨fun r hr htags hslot hmove => ⟨fun hst hmark => ?_, fun hst hmark => ?_⟩,
      fun r hr htags hslot hmove t hst hstart => ⟨fun hnot => ?_, fun hreached => ?_⟩,
      fun hslot hmove => ?_, fun hslot hstation hmove => ?_⟩
    · rw [hexec, hslot, State.reportAttemptOver_claim (s := u) hr htags hst, hmark, if_neg Bool.false_ne_true,
        State.takeWaitingMove_not (s := u) hmove]
    · rw [hexec, hslot, State.reportAttemptOver_claim (s := u) hr htags hst, if_pos hmark,
        State.takeWaitingMove_not (s := departed u r .cancelled .none none) hmove]
    · have hany : r.start.any (fun t => reached t u.now) = false := by rw [hstart]; exact hnot
      rw [hexec, hslot, State.reportAttemptOver_cancel (s := u) hr htags hst, hany, if_neg Bool.false_ne_true,
        State.takeWaitingMove_not (s := u) hmove]
    · have hany : r.start.any (fun t => reached t u.now) = true := by rw [hstart]; exact hreached
      rw [hexec, hslot, State.reportAttemptOver_cancel (s := u) hr htags hst, if_pos hany,
        State.takeWaitingMove_not (s := departed u r .cancelled .none none) hmove]
    · rw [hexec, hslot, State.reportAttemptOver_join, State.takeWaitingMove_not (s := u) hmove]
    · rw [hexec, hslot, State.reportAttemptOver_join, State.takeWaitingMove_eq, if_pos ⟨hmove, hstation⟩]
  · show execArbitrationWon s = _
    have hwon : cells.take 8 = x.frame.cells.take 8 := by
      rw [List.take_of_length_le hlength.le]
      exact htake
    rw [execArbitrationWon, onEvent_due _ _ s ((wonDue_iff s).2 ⟨x, cells, hx, hcells, hlength.ge, hwon⟩), hx]
    rfl

/-! #### Readback -/

/-- A detection leaves the requests as they are, or some of them leave. -/
theorem State.takeDetection_list_sublist (s : State) (d : Detection) :
    (s.takeDetection d).req.list.Sublist s.req.list := by
  obtain ⟨c, h⟩ | h | h | h := s.takeDetection_cases d <;> rw [h]
  · exact List.Sublist.refl _
  · rw [State.enterSilent_eq]
    exact List.filter_sublist
  · rw [State.enterConfigFault_eq]
    exact List.nil_sublist _
  · exact List.Sublist.refl _

/-- A detection leaves a move to ACTIVE that waits, unless the station withdraws. -/
theorem State.takeDetection_moveWaits (s : State) (d : Detection) :
    (s.takeDetection d).ctrl.moveWaits = s.ctrl.moveWaits
    ∨ (s.takeDetection d).ctrl.moveWaits = false ∧ (s.takeDetection d).ctrl.station ≠ .listening := by
  obtain ⟨c, h⟩ | h | h | h := s.takeDetection_cases d <;> rw [h]
  · exact .inl rfl
  · exact .inr ⟨rfl, nofun⟩
  · exact .inr ⟨rfl, nofun⟩
  · exact .inl rfl

theorem State.takeDetection_now (s : State) (d : Detection) : (s.takeDetection d).now = s.now := by
  obtain ⟨c, h⟩ | h | h | h := s.takeDetection_cases d <;> rw [h] <;> rfl

/-- Settles O26. -/
theorem readbackAbandonsTheFrame : Obligations.ReadbackAbandonsTheFrame := by
  intro s x cells sentCell readCell htransmit hcells hread hsent t
  have hframe : s.bus.transmit.frame = some x :=
    (Transmit.frame_eq_some_iff _ x).2 (htransmit.elim (fun h => .inr h.1) fun h => .inl h.1)
  have hexec : exec .readback s = .next (t.reportAttemptOver x.slot).takeWaitingMove := by
    show onEvent readbackDue State.failReadback s = _
    rw [onEvent_due _ _ s ((readbackDue_iff s).2 ⟨x, cells, sentCell, readCell, hcells, hread, hsent, htransmit⟩),
      State.failReadback, hframe]
    rfl
  have hsublist : t.req.list.Sublist s.req.list := State.takeDetection_list_sublist _ _
  have hnow : t.now = s.now := State.takeDetection_now _ _
  refine ⟨fun hslot => ?_, fun r hr htags hmove => ?_⟩
  · rw [hexec, hslot, State.reportAttemptOver_join, State.takeWaitingMove_eq]
    refine congrArg _ (if_congr (and_congr_left fun hlistening => ?_) rfl rfl)
    obtain h | ⟨-, h⟩ := State.takeDetection_moveWaits
      { s with bus := { s.bus with transmit := .quiet, receive := .unsynchronised 0 } }
      ⟨.readback, some ⟨s.ownId, x.frame.kind, x.frame.seq, false⟩, none, none, none⟩
    · rw [show t.ctrl.moveWaits = s.ctrl.moveWaits from h]
    · exact absurd hlistening h
  · have hstays : t.ctrl.moveWaits = false := by
      obtain h | ⟨h, -⟩ := State.takeDetection_moveWaits
        { s with bus := { s.bus with transmit := .quiet, receive := .unsynchronised 0 } }
        ⟨.readback, some ⟨s.ownId, x.frame.kind, x.frame.seq, false⟩, none, none, none⟩
      · exact h.trans hmove
      · exact h
    have htags' : tagsDiffer t := (hsublist.map Request.tag).nodup htags
    have habsent : r ∉ t.req.list → ∀ q ∈ t.req.list, q.tag ≠ r.tag := fun hnot q hq htag =>
      hnot (eq_of_tag_eq _ htags q r (hsublist.mem hq) hr htag ▸ hq)
    refine ⟨fun hslot hst => ?_, fun hslot hst => ?_⟩
    · rw [hexec, hslot]
      by_cases hlisted : r ∈ t.req.list
      · rw [State.reportAttemptOver_claim hlisted htags' hst]
        simp only [hlisted, and_true]
        split <;> exact congrArg _ (State.takeWaitingMove_not hstays)
      · rw [State.reportAttemptOver_absent (.inl rfl) (habsent hlisted), if_neg (fun h => hlisted h.2),
          State.takeWaitingMove_not hstays]
    · rw [hexec, hslot]
      by_cases hlisted : r ∈ t.req.list
      · rw [State.reportAttemptOver_cancel hlisted htags' hst, hnow]
        simp only [hlisted, and_true]
        split <;> exact congrArg _ (State.takeWaitingMove_not hstays)
      · rw [State.reportAttemptOver_absent (.inr rfl) (habsent hlisted), if_neg (fun h => hlisted h.2),
          State.takeWaitingMove_not hstays]

end Sys2Proof.Machine
end

section
/-!
PROOFS. The cells of a frame (O54): their layout, the fields, and what the Frame Checker makes of each part of them
(R42, R58 to R61, R182, R183).
-/

namespace Sys2Proof.Machine

open Sys2Proof.Said

/-! ### Bits and numbers -/

theorem bits_eq_bitsOf {w : Nat} (v : BitVec w) : bits v = bitsOf v := by
  refine List.map_congr_left fun i hi => ?_
  rw [BitVec.getMsbD, decide_eq_true (List.mem_range.1 hi), Bool.true_and]

@[simp] theorem bitsOf_length {w : Nat} (v : BitVec w) : (bitsOf v).length = w := by simp [bitsOf]

theorem ofBits_snoc (l : List Bool) (b : Bool) : ofBits (l ++ [b]) = 2 * ofBits l + b.toNat := by
  simp only [ofBits, List.foldl_append, List.foldl_cons, List.foldl_nil]

/-- The leading bits of a value spell its leading digits. -/
theorem ofBits_leading {w : Nat} (v : BitVec w) {k : Nat} (hk : k ≤ w) :
    ofBits ((List.range k).map v.getMsbD) = v.toNat / 2 ^ (w - k) := by
  induction k with
  | zero =>
    rw [Nat.sub_zero, Nat.div_eq_of_lt v.isLt]
    rfl
  | succ k ih =>
    obtain ⟨m, hm⟩ : ∃ m, w - k = m + 1 := ⟨w - k - 1, by omega⟩
    have hbit : (v.getMsbD k).toNat = v.toNat / 2 ^ m % 2 := by
      rw [BitVec.getMsbD, decide_eq_true (by omega), Bool.true_and, ← BitVec.testBit_toNat, Nat.toNat_testBit,
        show w - 1 - k = m by omega]
    rw [List.range_succ, List.map_append, List.map_singleton, ofBits_snoc, ih (by omega), hbit, hm,
      show w - (k + 1) = m by omega, Nat.pow_succ, ← Nat.div_div_eq_div_mul]
    omega

theorem ofBits_bitsOf {w : Nat} (v : BitVec w) : ofBits (bitsOf v) = v.toNat := by
  have h := ofBits_leading v le_rfl
  rwa [Nat.sub_self, Nat.pow_zero, Nat.div_one] at h

/-- A field that stands between two stretches of cells. -/
theorem field_mid {cells before mid after : List Cell} {start len : Nat} (h : cells = before ++ (mid ++ after))
    (hstart : before.length = start) (hlen : mid.length = len) : field cells start len = ofBits mid := by
  unfold field
  rw [h, ← hstart, List.drop_left, List.take_left' hlen]

theorem field_between {cells before after : List Cell} {w start : Nat} (v : BitVec w)
    (h : cells = before ++ (bitsOf v ++ after)) (hstart : before.length = start) : field cells start w = v.toNat := by
  rw [field_mid h hstart (bitsOf_length v), ofBits_bitsOf]

theorem field_take {cells : List Cell} {start len n : Nat} (h : start + len ≤ n) :
    field (cells.take n) start len = field cells start len := by
  unfold field
  rw [List.drop_take, List.take_take, Nat.min_eq_left (by omega)]

theorem ofNat_toNat {w : Nat} (v : BitVec w) : BitVec.ofNat w v.toNat = v := by
  rw [BitVec.ofNat_toNat, BitVec.setWidth_eq]

/-! ### The layout of a frame -/

theorem FrameKind.bits_length (k : FrameKind) : k.bits.length = 2 := by cases k <;> rfl

theorem Frame.covered_length (f : Frame) : f.covered.length + 1 = f.kind.crcAt := by
  unfold Frame.covered Frame.kind
  cases f.payload <;> simp [FrameKind.bits, Payload.cells, FrameKind.crcAt, FrameKind.payloadBits]

/-- The cells before the payload. -/
def Frame.head (f : Frame) : List Cell :=
  [false] ++ f.kind.bits ++ bitsOf f.id ++ bitsOf f.seq ++ bitsOf f.digest

theorem Frame.head_length (f : Frame) : f.head.length = 28 := by
  simp [Frame.head, FrameKind.bits_length]

/-- The cells after the payload. -/
def Frame.tail (f : Frame) : List Cell := bitsOf (crc16 f.covered) ++ [true, true]

theorem Frame.cells_eq (f : Frame) : f.cells = f.head ++ (f.payload.cells ++ f.tail) := by
  simp only [Frame.cells, Frame.covered, Frame.head, Frame.tail, List.append_assoc]

theorem Frame.cells_crc (f : Frame) :
    f.cells = ([false] ++ f.covered) ++ (bitsOf (crc16 f.covered) ++ [true, true]) := by
  simp only [Frame.cells, List.append_assoc]

theorem Frame.before_crc_length (f : Frame) : ([false] ++ f.covered).length = f.kind.crcAt := by
  rw [← f.covered_length, List.length_append, List.length_singleton, Nat.add_comm]

theorem Frame.cells_length (f : Frame) : f.cells.length = f.kind.length := by
  rw [f.cells_crc, List.length_append, f.before_crc_length, List.length_append, bitsOf_length]
  rfl

theorem Frame.cells_take (f : Frame) : f.cells.take f.kind.crcAt = [false] ++ f.covered := by
  rw [f.cells_crc, List.take_left' f.before_crc_length]

theorem Frame.cells_drop (f : Frame) : f.cells.drop (f.kind.crcAt + 16) = [true, true] := by
  rw [f.cells_crc, ← List.append_assoc]
  exact List.drop_left' (by rw [List.length_append, f.before_crc_length, bitsOf_length])

theorem Frame.field_crc (f : Frame) : field f.cells f.kind.crcAt 16 = (crc16 f.covered).toNat :=
  field_between _ f.cells_crc f.before_crc_length

theorem Frame.field_kind (f : Frame) : field f.cells 1 2 = ofBits f.kind.bits := by
  refine field_mid (before := [false])
    (after := bitsOf f.id ++ (bitsOf f.seq ++ (bitsOf f.digest ++ (f.payload.cells ++ f.tail)))) ?_ rfl
    f.kind.bits_length
  rw [f.cells_eq]
  simp only [Frame.head, List.append_assoc]

theorem kindOf_eq {cells : List Cell} {f : Frame} (h : field cells 1 2 = field f.cells 1 2) :
    kindOf cells = some f.kind := by
  unfold kindOf
  rw [h, f.field_kind]
  cases f.kind <;> rfl

theorem Frame.field_id (f : Frame) : field f.cells 3 5 = f.id.toNat := by
  refine field_between (before := [false] ++ f.kind.bits)
    (after := bitsOf f.seq ++ (bitsOf f.digest ++ (f.payload.cells ++ f.tail))) f.id ?_ ?_
  · rw [f.cells_eq]
    simp only [Frame.head, List.append_assoc]
  · simp [FrameKind.bits_length]

theorem Frame.field_seq (f : Frame) : field f.cells 8 12 = f.seq.toNat := by
  refine field_between (before := [false] ++ f.kind.bits ++ bitsOf f.id)
    (after := bitsOf f.digest ++ (f.payload.cells ++ f.tail)) f.seq ?_ ?_
  · rw [f.cells_eq]
    simp only [Frame.head, List.append_assoc]
  · simp [FrameKind.bits_length]

theorem Frame.field_digest (f : Frame) : field f.cells 20 8 = f.digest.toNat := by
  refine field_between (before := [false] ++ f.kind.bits ++ bitsOf f.id ++ bitsOf f.seq)
    (after := f.payload.cells ++ f.tail) f.digest ?_ ?_
  · rw [f.cells_eq]
    simp only [Frame.head, List.append_assoc]
  · simp [FrameKind.bits_length]

theorem Frame.payloadOf_cells (f : Frame) : payloadOf f.kind f.cells = f.payload := by
  have hcells := f.cells_eq
  have hhead := f.head_length
  unfold Frame.kind
  cases hpayload : f.payload with
  | cancel target =>
    rw [hpayload] at hcells
    dsimp only [payloadOf]
    rw [field_between target hcells hhead, ofNat_toNat]
  | join group =>
    rw [hpayload] at hcells
    have h : f.cells = f.head ++ (bitsOf group ++ ([true, true] ++ f.tail)) := by
      rw [hcells, Payload.cells, List.append_assoc]
    dsimp only [payloadOf]
    rw [field_between group h hhead, ofNat_toNat]
  | claim cls group weight offset =>
    rw [hpayload] at hcells
    have hcls : f.cells = f.head ++ (bitsOf cls ++ (bitsOf group ++ (bitsOf weight ++ (bitsOf offset ++ f.tail)))) := by
      rw [hcells]
      simp only [Payload.cells, List.append_assoc]
    have hgroup : f.cells
        = (f.head ++ bitsOf cls) ++ (bitsOf group ++ (bitsOf weight ++ (bitsOf offset ++ f.tail))) := by
      rw [hcls, List.append_assoc]
    have hweight : f.cells = (f.head ++ bitsOf cls ++ bitsOf group)
        ++ (bitsOf weight ++ (bitsOf offset ++ f.tail)) := by
      rw [hgroup]
      simp only [List.append_assoc]
    have hoffset : f.cells = (f.head ++ bitsOf cls ++ bitsOf group ++ bitsOf weight) ++ (bitsOf offset ++ f.tail) := by
      rw [hweight]
      simp only [List.append_assoc]
    dsimp only [payloadOf]
    rw [field_between cls hcls hhead, field_between group hgroup (by simp [hhead]),
      field_between weight hweight (by simp [hhead]), field_between offset hoffset (by simp [hhead])]
    simp only [ofNat_toNat]

theorem Frame.frameOf_cells (f : Frame) : frameOf f.kind f.cells = f := by
  unfold frameOf
  rw [f.field_id, f.field_seq, f.field_digest, f.payloadOf_cells]
  simp only [ofNat_toNat]

/-! ### The Frame Checker over the cells of a frame -/

/-- Of a part of the cells no recessive one reads as dominant. -/
theorem dominantAt_take {cells : List Cell} {i : Nat} (h : cells[i]? = some true) (n : Nat) :
    dominantAt (cells.take n) i = false := by
  unfold dominantAt
  rw [List.getElem?_take]
  split
  · rw [h]; rfl
  · rfl

theorem Frame.delimiter (f : Frame) : f.cells[f.kind.crcAt + 16]? = some true
    ∧ f.cells[f.kind.crcAt + 17]? = some true := by
  have h : ∀ j, f.cells[f.kind.crcAt + 16 + j]? = [true, true][j]? := fun j => by
    rw [← f.cells_drop, List.getElem?_drop]
  exact ⟨h 0, h 1⟩

theorem Frame.joinFill {f : Frame} (h : f.kind = .join) : f.cells[30]? = some true ∧ f.cells[31]? = some true := by
  obtain ⟨group, hpayload⟩ : ∃ group, f.payload = .join group := by
    unfold Frame.kind at h
    cases hpayload : f.payload with
    | join group => exact ⟨group, rfl⟩
    | cancel target => rw [hpayload] at h; cases h
    | claim cls group weight offset => rw [hpayload] at h; cases h
  have hcells : f.cells = (f.head ++ bitsOf group) ++ ([true, true] ++ f.tail) := by
    rw [f.cells_eq, hpayload, Payload.cells]
    simp only [List.append_assoc]
  have hlength : (f.head ++ bitsOf group).length = 30 := by
    rw [List.length_append, f.head_length, bitsOf_length]
  have hfill : ∀ j < 2, f.cells[30 + j]? = some true := fun j hj => by
    rw [hcells, List.getElem?_append_right (by omega), hlength, Nat.add_sub_cancel_left,
      List.getElem?_append_left (by simpa using hj)]
    have : j = 0 ∨ j = 1 := by omega
    obtain rfl | rfl := this <;> rfl
  exact ⟨hfill 0 (by omega), hfill 1 (by omega)⟩

theorem Frame.checkTail_take (f : Frame) {n : Nat} (hn : n ≤ f.cells.length) :
    checkTail f.kind (f.cells.take n) = if n < f.cells.length then .incomplete else .complete f := by
  have hlength : (f.cells.take n).length = n := by rw [List.length_take, Nat.min_eq_left hn]
  have htotal := f.cells_length
  have hkind : f.kind.length = f.kind.crcAt + 18 := rfl
  unfold checkTail
  rw [hlength]
  by_cases hcrc : n < f.kind.crcAt + 16
  · rw [if_pos hcrc, if_pos (by omega)]
  · have hcovered : (f.cells.take n).take f.kind.crcAt = [false] ++ f.covered := by
      rw [List.take_take, Nat.min_eq_left (by omega), f.cells_take]
    rw [if_neg hcrc, field_take (by omega), f.field_crc, hcovered, List.singleton_append, List.drop_succ_cons,
      List.drop_zero, if_neg (not_not.2 rfl), dominantAt_take f.delimiter.1, dominantAt_take f.delimiter.2,
      Bool.or_false, if_neg Bool.false_ne_true, ← htotal]
    split
    · rfl
    · rw [List.take_of_length_le (by omega), f.frameOf_cells]

/-- The cells of a frame are taken for that frame when the last of them has come, and for nothing before. -/
theorem Frame.checkCells_take (f : Frame) {n : Nat} (hn : n ≤ f.cells.length) :
    checkCells (f.cells.take n) = if n < f.cells.length then .incomplete else .complete f := by
  have hlength : (f.cells.take n).length = n := by rw [List.length_take, Nat.min_eq_left hn]
  have htotal : 46 ≤ f.cells.length := by
    rw [f.cells_length, FrameKind.length, FrameKind.crcAt]
    omega
  unfold checkCells
  rw [hlength]
  by_cases hshort : n < 3
  · rw [if_pos hshort, if_pos (by omega)]
  · rw [if_neg hshort, kindOf_eq (field_take (by omega)), ← f.checkTail_take hn]
    cases hkind : f.kind with
    | join =>
      obtain ⟨hfirst, hsecond⟩ := Frame.joinFill hkind
      dsimp only
      rw [dominantAt_take hfirst, dominantAt_take hsecond]
      rfl
    | cancel => rfl
    | claim => rfl

theorem Frame.checkCells_cells (f : Frame) : checkCells f.cells = .complete f := by
  have h := f.checkCells_take le_rfl
  rwa [List.take_length, if_neg (lt_irrefl _)] at h

/-! ### The statement -/

theorem crc16_snoc (cells : List Cell) (b : Cell) : crc16 (cells ++ [b]) = crcStep 0x1021#16 (crc16 cells) b := by
  simp only [crc16, List.foldl_append, List.foldl_cons, List.foldl_nil]

theorem crc16_poly {i : Nat} (hi : i < 16) : (0x1021#16).getLsbD i = decide (i = 12 ∨ i = 5 ∨ i = 0) := by
  decide +revert

theorem Frame.cells_crc_getElem (f : Frame) {i : Nat} (hi : i < 16) :
    f.cells[f.kind.crcAt + i]? = some ((crc16 ((f.cells.take f.kind.crcAt).drop 1)).getLsbD (15 - i)) := by
  rw [f.cells_take, List.singleton_append, List.drop_succ_cons, List.drop_zero, f.cells_crc,
    List.getElem?_append_right (by rw [f.before_crc_length]; omega), f.before_crc_length, Nat.add_sub_cancel_left,
    List.getElem?_append_left (by rw [bitsOf_length]; exact hi), ← bits_eq_bitsOf, bits, List.getElem?_map,
    List.getElem?_range hi]
  rfl

/-- Settles O54. -/
theorem frameCellsRoundTrip : Obligations.FrameCellsRoundTrip := by
  refine ⟨⟨rfl, fun cells b i hi => ?_⟩, fun f => ⟨fun i hi => f.cells_crc_getElem hi, ?_, ?_, f.cells_drop,
    f.checkCells_cells, ?_, fun n hn => ?_⟩⟩
  · rw [crc16_snoc, getLsbD_crcStep _ _ _ hi, crc16_poly hi]
  · cases f.kind <;> rfl
  · rw [f.cells_take]
    unfold Frame.covered Frame.kind
    simp only [bits_eq_bitsOf]
    cases f.payload <;> simp only [FrameKind.bits, Payload.cells, List.append_assoc]
  · rw [f.cells_length]
    cases f.kind <;> rfl
  · rw [f.checkCells_take hn.le, if_pos hn]

end Sys2Proof.Machine
end

section
/-!
PROOFS. Detections and the drive (O36, O37), and the frames that this station receives (O31 to O35).
-/

namespace Sys2Proof.Machine

open Sys2Proof.Said

/-! ### Detections (R97, R117 to R120) -/

/-- In PERSISTENT mode, or with the record empty, a detection asks for a pulse of its class. -/
theorem State.takeDetection_pulse {s : State} {d : Detection} (hkind : d.kind ≠ .identity)
    (hmode : s.tolerance = .persistent ∨ s.log.record = none) :
    s.takeDetection d = (s.recordDetection d).requestPulse d.kind.pulse := by
  have htolerance : (s.recordDetection d).tolerance = s.tolerance := rfl
  unfold State.takeDetection
  dsimp only
  rw [htolerance]
  split
  · next h => exact absurd h hkind
  · next hlatched hfull _ =>
    obtain hpersistent | hempty := hmode
    · rw [hpersistent] at hlatched
      cases hlatched
    · rw [hempty] at hfull
      cases hfull
  · rfl

/-- In LATCHED mode a detection with the record full takes the station to SILENT. -/
theorem State.takeDetection_latched {s : State} {d : Detection} (hkind : d.kind ≠ .identity)
    (hlatched : s.tolerance = .latched) (hfull : s.log.record ≠ none) :
    s.takeDetection d = (s.recordDetection d).enterSilent := by
  have htolerance : (s.recordDetection d).tolerance = .latched := hlatched
  have hsome : s.log.record.isSome = true := Option.isSome_iff_ne_none.2 hfull
  unfold State.takeDetection
  dsimp only
  rw [htolerance, hsome]
  split
  · next h => exact absurd h hkind
  · rfl
  · next hnot => exact absurd rfl (hnot rfl)

theorem State.takeDetection_identity {s : State} {d : Detection} (hkind : d.kind = .identity) :
    s.takeDetection d = (s.recordDetection d).takeIdentity := by
  unfold State.takeDetection
  dsimp only
  rw [hkind]

theorem DetectionKind.pulse_eq {k : DetectionKind} (h : k ≠ .identity) :
    k.pulse = if k = .crc ∨ k = .framing ∨ k = .readback then .short else .long := by
  cases k <;> simp [DetectionKind.pulse] at h ⊢

/-- Settles O36. -/
theorem detectionIsRecordedThenAnswered : Obligations.DetectionIsRecordedThenAnswered := by
  refine fun s d hkind => ⟨fun hmode => ?_, fun hlatched hfull => ?_⟩
  · rw [State.takeDetection_pulse hkind hmode, State.recordDetection_recorded, State.requestPulse_driven,
      DetectionKind.pulse_eq hkind]
  · rw [State.takeDetection_latched hkind hlatched hfull, State.recordDetection_recorded, State.enterSilent_silent]

/-! ### The drive (R98, R100) -/

theorem ownLow_eq (s : State) : s.ownLow = pullsStop s := by
  unfold pullsStop State.ownLow
  cases s.stop.drive with
  | released => rfl
  | driving c start finish pulling =>
    show (reached start s.now && !decide (0 ≤ tickDiff s.now finish)) = _
    rw [← decide_not, reached]
    simp only [not_le]

theorem driveBegun_iff (s : State) : s.driveBegun = true ↔ ∃ c start finish pulling,
    s.stop.drive = .driving c start finish pulling ∧ 0 ≤ tickDiff s.now start := by
  unfold State.driveBegun
  cases s.stop.drive <;> simp [reached_iff]

theorem stopDriver_iff (s : State) : s.stopDriver = true ↔ ∃ c start finish,
    s.stop.drive = .driving c start finish true := by
  unfold State.stopDriver
  cases s.stop.drive <;> simp

/-- Settles O37. -/
theorem driveStartsAndEnds : Obligations.DriveStartsAndEnds := by
  refine ⟨fun s => ⟨(stopIsLow_eq s).symm, ownLow_eq s, stopDriver_iff s, driveBegun_iff s⟩,
    fun s c start finish => ⟨fun hdrive hreached => ⟨fun howed => ?_, fun howed => ?_⟩,
      fun pulling hdrive hreached => ?_⟩⟩
  · show onEvent driveStartDue State.startDrive s = _
    rw [onEvent_due _ _ s ((driveStartDue_iff s).2 ⟨c, start, finish, hdrive, hreached⟩), State.startDrive, hdrive]
    dsimp only
    rw [howed]
    rfl
  · show onEvent driveStartDue State.startDrive s = _
    rw [onEvent_due _ _ s ((driveStartDue_iff s).2 ⟨c, start, finish, hdrive, hreached⟩), State.startDrive, hdrive]
    dsimp only
    rw [if_pos howed, State.enterConfigFault_fallenOut]
    rfl
  · show execDriveEnd s = _
    rw [execDriveEnd, onEvent_due _ _ s ((driveEndDue_iff s).2 ⟨c, start, finish, pulling, hdrive, hreached⟩)]

/-! ### Stage 7 (R68, R70 to R73) -/

theorem stage7_join {f : Frame} {g : Group} (hpayload : f.payload = .join g) (e : RosterEntry) (now : Tick) :
    stage7 e f now = (⟨true, some g, some (f.seq + 1), some now⟩, none) := by
  unfold stage7
  rw [hpayload]

theorem stage7_cancel {f : Frame} {target : Seq} (hpayload : f.payload = .cancel target) {e : RosterEntry}
    (hseq : e.expectation = none ∨ e.expectation = some f.seq) (now : Tick) :
    stage7 e f now = (⟨true, e.group, some (f.seq + 1), some now⟩, none) := by
  unfold stage7
  rw [hpayload]
  exact if_pos hseq

theorem stage7_claim {f : Frame} {c : ClaimFields} (hpayload : f.payload = claimOf c) {e : RosterEntry}
    (hseq : e.expectation = none ∨ e.expectation = some f.seq) (hgroup : e.group = none ∨ e.group = some c.group)
    (now : Tick) : stage7 e f now = (⟨true, some c.group, some (f.seq + 1), some now⟩, none) := by
  unfold stage7
  rw [hpayload]
  dsimp only [claimOf]
  rw [if_pos hseq]
  obtain hnone | hsame := hgroup
  · rw [hnone]
  · rw [hsame]
    exact if_pos rfl

theorem stage7_otherGroup {f : Frame} {c : ClaimFields} (hpayload : f.payload = claimOf c) {e : RosterEntry}
    (hseq : e.expectation = none ∨ e.expectation = some f.seq) {g : Group} (hgroup : e.group = some g)
    (hne : g ≠ c.group) (now : Tick) : stage7 e f now = (⟨true, some g, some (f.seq + 1), some now⟩,
      some ⟨.groupMismatch, some f.header, none, none, none⟩) := by
  unfold stage7
  rw [hpayload]
  dsimp only [claimOf]
  rw [if_pos hseq, hgroup]
  exact if_neg hne

theorem stage7_gap {f : Frame} (hkind : f.kind ≠ .join) {e : RosterEntry} {expected : Seq}
    (hexpected : e.expectation = some expected) (hne : expected ≠ f.seq) (now : Tick) :
    stage7 e f now = ({ e with present := true, lastHeard := some now },
      some ⟨.sequenceGap, some f.header, some expected, none, none⟩) := by
  have hnot : ¬(e.expectation = none ∨ e.expectation = some f.seq) := by
    rw [hexpected]
    simpa using hne
  unfold stage7
  unfold Frame.kind at hkind
  cases hpayload : f.payload with
  | join g => rw [hpayload] at hkind; exact absurd rfl hkind
  | cancel target =>
    dsimp only
    rw [if_neg hnot, hexpected]
  | claim cls group weight offset =>
    dsimp only
    rw [if_neg hnot, hexpected]

theorem State.stage78_passed {s : State} {f : Frame} {e : RosterEntry} (h : stage7 (s.entry f.id) f s.now = (e, none))
    (tag : Option Byte) : s.stage78 f tag = (s.setEntry f.id e).stage8 f tag := by
  unfold State.stage78
  rw [h]

theorem State.stage78_stopped {s : State} {f : Frame} {e : RosterEntry} {d : Detection}
    (h : stage7 (s.entry f.id) f s.now = (e, some d)) :
    s.stage78 f none = (s.setEntry f.id e).takeDetection d
    ∧ ∀ g, s.stage78 f (some g) = ((s.setEntry f.id e).reportStopped g).takeDetection d := by
  unfold State.stage78
  rw [h]
  exact ⟨rfl, fun _ => rfl⟩

/-! ### Stage 8 (R22 to R27) -/

theorem plus_offset (now : Tick) (offset : Offset) : plus now offset.toNat = now + offset.setWidth 32 := by
  rw [plus, BitVec.ofNat_toNat]

theorem claimRecord_eq (s : State) (f : Frame) (c : ClaimFields) (tag : Option Byte) :
    claimRecord f c s.now tag = recordOf s f c tag := by
  unfold claimRecord recordOf
  rw [plus_offset]

/-- A record of this owner and claim sequence is in the table. -/
theorem any_isRecord_iff (table : List ClaimRecord) (owner : StationId) (seq : Seq) :
    table.any (isRecord owner seq) = true ↔ ∃ x ∈ table, x.owner = owner ∧ x.seq = seq := by
  rw [List.any_eq_true]
  exact exists_congr fun x => and_congr_right fun _ => isRecord_iff owner seq x

theorem refusal_twice {s : State} {f : Frame} (c : ClaimFields) (h : ∃ x ∈ s.table, x.owner = f.id ∧ x.seq = f.seq) :
    refusal s f c = some .checkFail := if_pos ((any_isRecord_iff _ _ _).2 h)

/-- With no record of the name the answer of the check decides. -/
theorem refusal_once {s : State} {f : Frame} (c : ClaimFields) (h : ¬∃ x ∈ s.table, x.owner = f.id ∧ x.seq = f.seq) :
    let check := admissionCheck s.params s.params.G s.table
      ⟨s.now + c.offset.setWidth 32, c.weight.toNat, c.group, c.offset.toNat⟩
    (check = .pass → refusal s f c = none) ∧ (check = .range → refusal s f c = some .claimRange)
      ∧ (check = .fit → refusal s f c = some .checkFail) := by
  have hnot : ¬s.table.any (isRecord f.id f.seq) = true := fun hany => h ((any_isRecord_iff _ _ _).1 hany)
  unfold refusal
  rw [if_neg hnot, plus_offset]
  exact ⟨fun hc => by rw [hc], fun hc => by rw [hc], fun hc => by rw [hc]⟩

theorem refusal_admitted {s : State} {f : Frame} {c : ClaimFields} (h : admitted s f c) : refusal s f c = none :=
  (refusal_once c fun ⟨x, hx, hname⟩ => h.1 x hx hname).1 h.2

/-- A claim that the table takes is inserted; the request of an own one hears of it (R22, R24). -/
theorem State.takeClaim_admitted {s : State} (hst : s.ctrl.station = .listening ∨ s.ctrl.station = .active)
    {f : Frame} {c : ClaimFields} (h : admitted s f c) :
    (s.takeClaim f c none = { s with table := insertRecord (recordOf s f c none) s.table })
    ∧ ∀ g, s.takeClaim f c (some g) = State.reportInserted
        { s with table := insertRecord (recordOf s f c (some g)) s.table } g (s.now + c.offset.setWidth 32) := by
  unfold State.takeClaim
  rw [refusal_admitted h]
  simp only [claimRecord_eq]
  obtain hst | hst := hst <;> rw [hst] <;> exact ⟨rfl, fun _ => rfl⟩

/-- A claim that the table refuses raises its detection with the claim fields, after the report to the request of an
own one (R23, R24). -/
theorem State.takeClaim_refused {s : State} (hst : s.ctrl.station = .listening ∨ s.ctrl.station = .active)
    {f : Frame} {c : ClaimFields} {k : DetectionKind} (h : refusal s f c = some k) :
    (s.takeClaim f c none = s.takeDetection ⟨k, some f.header, none, some c, none⟩)
    ∧ ∀ g, s.takeClaim f c (some g) = (s.reportRefused g).takeDetection ⟨k, some f.header, none, some c, none⟩ := by
  unfold State.takeClaim
  rw [h]
  obtain hst | hst := hst <;> rw [hst] <;> exact ⟨rfl, fun _ => rfl⟩

theorem State.takeClaim_quiesce {s : State} (hst : s.ctrl.station = .quiesce) (f : Frame) (c : ClaimFields)
    (tag : Option Byte) :
    s.takeClaim f c tag = s.takeDetection ⟨.outOfTurn, some f.header, none, none, none⟩ := by
  unfold State.takeClaim
  rw [hst]
  rfl

theorem filter_not_isRecord (table : List ClaimRecord) (owner : StationId) (seq : Seq) :
    table.filter (fun r => !isRecord owner seq r)
      = table.filter (fun y => decide ¬(y.owner = owner ∧ y.seq = seq)) := by
  refine List.filter_congr fun x _ => ?_
  rw [decide_not, ← Bool.decide_coe (isRecord owner seq x)]
  exact congrArg _ (decide_eq_decide.2 (isRecord_iff owner seq x))

/-- A CANCEL removes the record it names; the request whose tag the record carries hears of it (R26). -/
theorem State.takeCancel_found {s : State} (hon : s.ctrl.station.receiving = true) {f : Frame} {target : Seq}
    {x : ClaimRecord} (hx : s.table.find? (isRecord f.id target) = some x) (htag : ownTag s.ownId x = none) :
    s.takeCancel f target
      = { s with table := s.table.filter (fun y => decide ¬(y.owner = f.id ∧ y.seq = target)) } := by
  unfold State.takeCancel
  rw [hx]
  dsimp only
  rw [htag, filter_not_isRecord]
  obtain h | h | h := (receiving_iff _).1 hon <;> rw [h]

/-- A CANCEL that names no record is passed over in LISTENING, and raises UNKNOWN_TARGET elsewhere (R26). -/
theorem State.takeCancel_missing {s : State} {f : Frame} {target : Seq}
    (h : ∀ x ∈ s.table, ¬(x.owner = f.id ∧ x.seq = target)) :
    (s.ctrl.station = .listening → s.takeCancel f target = s)
    ∧ (s.ctrl.station = .active ∨ s.ctrl.station = .quiesce →
      s.takeCancel f target = s.takeDetection ⟨.unknownTarget, some f.header, none, none, some target⟩) := by
  have hnone : s.table.find? (isRecord f.id target) = none :=
    List.find?_eq_none.2 fun x hx hname => h x hx ((isRecord_iff _ _ x).1 hname)
  unfold State.takeCancel
  rw [hnone]
  refine ⟨fun hst => ?_, fun hst => ?_⟩
  · rw [hst]
    rfl
  · obtain hst | hst := hst <;> rw [hst] <;> rfl

/-! ### Frames of peers (R61, R63, R64) -/

theorem exec_frameEndReceived {s : State} {f : Frame} (h : arrived s f) :
    exec .frameEndReceived s = .next ((frameEnded s).takeReceived f) := by
  obtain ⟨hon, hquiet, hreceive⟩ := h
  have hreceived : received s = .complete f :=
    (received_eq_iff s (.complete f) nofun).2 ⟨hon, hquiet, f.cells, hreceive, f.checkCells_cells⟩
  show onEvent frameEndDue State.endReceived s = _
  rw [onEvent_due _ _ s ((frameEndDue_iff s).2 ⟨f, hreceived⟩), State.endReceived, hreceived]
  rfl

/-- A good frame of a peer goes on to stage 7. -/
theorem exec_goodFrame {s : State} {f : Frame} (h : arrived s f) (hgood : goodFromPeer s f) :
    exec .frameEndReceived s = .next (((frameEnded s).count .good).stage78 f none) := by
  obtain ⟨hdigest, hid⟩ := hgood
  rw [exec_frameEndReceived h, State.takeReceived, if_pos (show (frameEnded s).port.digest = _ from hdigest),
    State.goodPeerFrame, if_neg (show f.id ≠ ((frameEnded s).count .good).ownId from hid)]

theorem exec_goodFrame_passed {s : State} {f : Frame} (h : arrived s f) (hgood : goodFromPeer s f) {e : RosterEntry}
    (hstage : stage7 (s.entry f.id) f s.now = (e, none)) :
    exec .frameEndReceived s = .next ((heard (frameEnded s) f.id e).stage8 f none) := by
  rw [exec_goodFrame h hgood, State.stage78_passed (s := (frameEnded s).count .good) hstage]
  rfl

theorem exec_goodFrame_stopped {s : State} {f : Frame} (h : arrived s f) (hgood : goodFromPeer s f) {e : RosterEntry}
    {d : Detection} (hstage : stage7 (s.entry f.id) f s.now = (e, some d)) :
    exec .frameEndReceived s = .next ((heard (frameEnded s) f.id e).takeDetection d) := by
  rw [exec_goodFrame h hgood, (State.stage78_stopped (s := (frameEnded s).count .good) hstage).1]
  rfl

/-- Settles O31. -/
theorem rosterTakesAPeersFrame : Obligations.RosterTakesAPeersFrame := by
  refine fun s f h hgood => ⟨fun g hpayload => ?_, fun expected hkind hexpected hne => ?_,
    fun c g hpayload hseq hgroup hne => ?_⟩
  · rw [exec_goodFrame_passed h hgood (stage7_join hpayload _ _), State.stage8, hpayload]
    rfl
  · exact exec_goodFrame_stopped h hgood (stage7_gap hkind hexpected hne _)
  · exact exec_goodFrame_stopped h hgood (stage7_otherGroup hpayload hseq hgroup hne _)

theorem insertRecord_split (x : ClaimRecord) (l : List ClaimRecord) : ∃ before after, l = before ++ after
    ∧ insertRecord x l = before ++ x :: after ∧ (∀ y ∈ before, tickDiff y.start x.start ≤ 0)
    ∧ ∀ y ∈ after.head?, 0 < tickDiff y.start x.start := by
  induction l with
  | nil => exact ⟨[], [], rfl, rfl, nofun, nofun⟩
  | cons y rest ih =>
    by_cases h : later y.start x.start = true
    · refine ⟨[], y :: rest, rfl, if_pos h, nofun, fun z hz => ?_⟩
      cases hz
      exact (later_iff _ _).1 h
    · obtain ⟨before, after, hl, hinsert, hbefore, hafter⟩ := ih
      refine ⟨y :: before, after, by rw [hl]; rfl, ?_, fun z hz => ?_, hafter⟩
      · rw [insertRecord, if_neg h, hinsert]
        rfl
      · obtain rfl | hz := List.mem_cons.1 hz
        · exact not_lt.1 fun hlt => h ((later_iff _ _).2 hlt)
        · exact hbefore z hz

/-- Settles O32. -/
theorem peersClaimIsInsertedOrRefused : Obligations.PeersClaimIsInsertedOrRefused := by
  refine ⟨insertRecord_split, fun s f c h hgood hpayload hst hseq hgroup hadmitted => ?_,
    fun s f c h hgood hpayload hseq hgroup => ?_⟩
  · rw [exec_goodFrame_passed h hgood (stage7_claim hpayload hseq hgroup _), State.stage8, hpayload]
    exact congrArg _ (State.takeClaim_admitted
      (s := heard (frameEnded s) f.id (entryAfter s f (some c.group))) hst hadmitted).1
  · intro t check twice
    have hexec : exec .frameEndReceived s = .next (t.takeClaim f c none) := by
      rw [exec_goodFrame_passed h hgood (stage7_claim hpayload hseq hgroup _), State.stage8, hpayload]
      rfl
    have hrefused : ∀ k, (s.ctrl.station = .listening ∨ s.ctrl.station = .active) → refusal t f c = some k →
        exec .frameEndReceived s = .next (t.takeDetection ⟨k, some (Said.headerOf f), none, some c, none⟩) :=
      fun k hst hk => hexec.trans (congrArg _ (State.takeClaim_refused (s := t) hst hk).1)
    refine ⟨fun hst hcase => hrefused _ hst ?_, fun hst hrange hnot => hrefused _ hst ?_, fun hst => ?_⟩
    · obtain htwice | ⟨hfit, hnot⟩ := hcase
      · exact refusal_twice (s := t) c htwice
      · exact (refusal_once (s := t) c hnot).2.2 hfit
    · exact (refusal_once (s := t) c hnot).2.1 hrange
    · exact hexec.trans (congrArg _ (State.takeClaim_quiesce (s := t) hst f c none))

/-- Settles O33. -/
theorem peersCancelRemovesTheRecord : Obligations.PeersCancelRemovesTheRecord := by
  intro s f target h hgood hpayload hseq t
  have hexec : exec .frameEndReceived s = .next (t.takeCancel f target) := by
    rw [exec_goodFrame_passed h hgood (stage7_cancel hpayload hseq _), State.stage8, hpayload]
    rfl
  refine ⟨fun ⟨y, hy, hname⟩ => ?_, fun hnone => ⟨fun hst => ?_, fun hst => ?_⟩⟩
  · obtain ⟨x, hx⟩ := Option.isSome_iff_exists.1
      ((find_isSome_iff (isRecord f.id target) t.table).2 ⟨y, hy, (isRecord_iff _ _ y).2 hname⟩)
    have hpeer : ownTag t.ownId x = none := by
      have howner := ((isRecord_iff _ _ x).1 (List.find?_some hx)).1
      exact if_neg (by rw [howner]; exact hgood.2)
    exact hexec.trans (congrArg _ (State.takeCancel_found (s := t) h.1 hx hpeer))
  · exact hexec.trans (congrArg _ ((State.takeCancel_missing (s := t) hnone).1 hst))
  · exact hexec.trans (congrArg _ ((State.takeCancel_missing (s := t) hnone).2 hst))

/-- Settles O34. -/
theorem ownIdAndForeignFramesAreAnswered : Obligations.OwnIdAndForeignFramesAreAnswered := by
  refine ⟨fun s f h hdigest hid => ?_, fun s f h hdigest => ?_⟩
  · intro t u
    have hexec : exec .frameEndReceived s = .next (if u.driveBegun = true then u.enterConfigFault
        else { u with ctrl := { u.ctrl with identityOwed := true } }) := by
      rw [exec_frameEndReceived h, State.takeReceived, if_pos (show (frameEnded s).port.digest = _ from hdigest),
        State.goodPeerFrame, if_pos (show f.id = ((frameEnded s).count .good).ownId from hid),
        State.takeDetection_identity rfl, State.recordDetection_recorded, State.takeIdentity, State.requestPulse_driven]
      rfl
    refine ⟨fun hbegun => ?_, fun hbegun => ?_⟩
    · rw [hexec, hbegun, if_neg Bool.false_ne_true]
    · rw [hexec, if_pos hbegun, State.enterConfigFault_fallenOut]
  · intro t
    have hexec : exec .frameEndReceived s = .next (if s.ctrl.station = .listening then t.enterConfigFault else t) := by
      rw [exec_frameEndReceived h, State.takeReceived, if_neg (show (frameEnded s).port.digest ≠ _ from hdigest),
        State.foreignFrame]
      rfl
    refine ⟨fun hst => ?_, fun hst => ?_⟩
    · rw [hexec, if_neg hst]
    · rw [hexec, if_pos hst, State.enterConfigFault_fallenOut]

/-! ### Malformed frames (R60 to R62) -/

theorem exec_frameCheckFailed {s : State} {cells : List Cell} {d : Detection} (hon : s.ctrl.station.receiving = true)
    (hquiet : s.bus.transmit = .quiet) (hreceive : s.bus.receive = .inFrame cells)
    (hfailed : checkCells cells = .failed d) : exec .frameCheckFailed s
      = .next (State.takeDetection { s with bus := { s.bus with receive := .unsynchronised 0 } } d) := by
  have hreceived : received s = .failed d :=
    (received_eq_iff s (.failed d) nofun).2 ⟨hon, hquiet, cells, hreceive, hfailed⟩
  show onEvent checkFailedDue State.failCheck s = _
  rw [onEvent_due _ _ s ((checkFailedDue_iff s).2 ⟨d, hreceived⟩), State.failCheck, hreceived]

theorem dominantAt_last {cells : List Cell} {i : Nat} (hlength : cells.length = i + 1)
    (hlast : cells.getLast? = some false) : dominantAt cells i = true := by
  rw [List.getLast?_eq_getElem?, hlength, Nat.add_sub_cancel] at hlast
  exact beq_iff_eq.2 hlast

theorem dominantAt_recessive {cells : List Cell} {i : Nat} (h : cells[i]? = some true) :
    dominantAt cells i = false := by
  rw [dominantAt, h]
  rfl

/-- With the kind spelt and the fill of a JOIN recessive, stages 3 and 4 decide. -/
theorem checkCells_tail {cells : List Cell} {k : FrameKind} (hlong : 3 ≤ cells.length) (hkind : kindOf cells = some k)
    (hfill : k = .join → cells[30]? = some true ∧ cells[31]? = some true) : checkCells cells = checkTail k cells := by
  unfold checkCells
  rw [if_neg (by omega), hkind]
  cases k with
  | cancel | claim => rfl
  | join =>
    obtain ⟨hfirst, hsecond⟩ := hfill rfl
    dsimp only
    rw [dominantAt_recessive hfirst, dominantAt_recessive hsecond]
    rfl

theorem checkTail_crc {cells : List Cell} {k : FrameKind} (hlength : k.crcAt + 16 ≤ cells.length)
    (hcrc : field cells k.crcAt 16 ≠ (crc16 ((cells.take k.crcAt).drop 1)).toNat) :
    checkTail k cells = .failed (.plain .crc (some (Machine.headerOf k cells false))) := by
  unfold checkTail
  rw [if_neg (by omega), if_pos hcrc]

theorem checkTail_delimiter {cells : List Cell} {k : FrameKind} (hlength : k.crcAt + 16 ≤ cells.length)
    (hcrc : field cells k.crcAt 16 = (crc16 ((cells.take k.crcAt).drop 1)).toNat)
    (hdominant : dominantAt cells (k.crcAt + 16) = true ∨ dominantAt cells (k.crcAt + 17) = true) :
    checkTail k cells = .failed (.plain .framing (some (Machine.headerOf k cells true))) := by
  unfold checkTail
  rw [if_neg (by omega), if_neg (not_not.2 hcrc), if_pos (Bool.or_eq_true_iff.2 hdominant)]

/-- Settles O35. -/
theorem malformedFrameStopsAtItsCheck : Obligations.MalformedFrameStopsAtItsCheck := by
  intro s cells hon hquiet hreceive stopped head
  have hstopped : ∀ k h, checkCells cells = .failed (.plain k h) → stopped k h :=
    fun k h hfailed => exec_frameCheckFailed hon hquiet hreceive hfailed
  have hcrcAt : ∀ k : FrameKind, 28 ≤ k.crcAt := fun k => Nat.le_add_right 28 _
  refine ⟨fun hlength hkind => hstopped _ _ ?_, fun hlength hkind hlast => hstopped _ _ ?_,
    fun k hkind hlength hfill hcrc => hstopped _ _ ?_, fun k hkind hlength hfill hcrc hlast => hstopped _ _ ?_⟩
  · have hnone : kindOf cells = none := by
      rw [kindOf, hkind]
      rfl
    unfold checkCells
    rw [if_neg (by omega), hnone]
  · have hjoin : kindOf cells = some .join := by
      rw [kindOf, hkind]
      rfl
    have hdominant : (dominantAt cells 30 || dominantAt cells 31) = true := by
      obtain hlength | hlength := hlength
      · rw [dominantAt_last hlength hlast, Bool.true_or]
      · rw [dominantAt_last hlength hlast, Bool.or_true]
    unfold checkCells
    rw [if_neg (by omega), hjoin]
    exact if_pos hdominant
  · have := hcrcAt k
    rw [checkCells_tail (by omega) hkind hfill, checkTail_crc hlength.ge hcrc]
    rfl
  · have := hcrcAt k
    have hdominant : dominantAt cells (k.crcAt + 16) = true ∨ dominantAt cells (k.crcAt + 17) = true :=
      hlength.imp (fun h => dominantAt_last h hlast) fun h => dominantAt_last h hlast
    rw [checkCells_tail (by omega) hkind hfill, checkTail_delimiter (by omega) hcrc hdominant]
    rfl

end Sys2Proof.Machine
end

section
/-!
PROOFS. Completed own frames (O27 to O30): what completion makes of the slot and its request, then stages 7 and 8.
-/

namespace Sys2Proof.Machine

open Sys2Proof.Said

/-! ### Changes and departures of one request -/

/-- A listed request, and the others before and after it. -/
theorem split_at_request {l : List Request} {r : Request} (hr : r ∈ l) (htags : (l.map Request.tag).Nodup) :
    ∃ before after, l = before ++ r :: after ∧ (∀ q ∈ before, q.tag ≠ r.tag) ∧ (∀ q ∈ after, q.tag ≠ r.tag)
      ∧ l.filter (fun q => decide (q.tag ≠ r.tag)) = before ++ after := by
  obtain ⟨before, after, rfl⟩ := List.append_of_mem hr
  rw [List.map_append, List.map_cons, List.nodup_middle, List.nodup_cons, List.mem_append, not_or] at htags
  have hbefore : ∀ q ∈ before, q.tag ≠ r.tag := fun q hq h => htags.1.1 (h ▸ List.mem_map_of_mem hq)
  have hafter : ∀ q ∈ after, q.tag ≠ r.tag := fun q hq h => htags.1.2 (h ▸ List.mem_map_of_mem hq)
  refine ⟨before, after, rfl, hbefore, hafter, ?_⟩
  rw [List.filter_append, List.filter_cons_of_neg (by simp),
    List.filter_eq_self.2 fun q hq => decide_eq_true (hbefore q hq),
    List.filter_eq_self.2 fun q hq => decide_eq_true (hafter q hq)]

theorem filterMap_stays_map {l : List Request} {d : Request → Disposition} {f : Request → Request}
    (h : ∀ q ∈ l, d q = .stay (f q)) : l.filterMap (stays d) = l.map f := by
  rw [← List.filterMap_eq_map]
  exact List.filterMap_congr fun q hq => by rw [stays, h q hq]; rfl

theorem filterMap_fronts_nil {l : List Request} {d : Request → Disposition} {f : Request → Request}
    (h : ∀ q ∈ l, d q = .stay (f q)) : l.filterMap (fronts d) = [] :=
  List.filterMap_eq_nil_iff.2 fun q hq => by rw [fronts, h q hq]

theorem filterMap_departure_nil {l : List Request} {d : Request → Disposition} {f : Request → Request}
    (h : ∀ q ∈ l, d q = .stay (f q)) : l.filterMap (departure d) = [] :=
  List.filterMap_eq_nil_iff.2 fun q hq => by rw [departure, h q hq]

@[simp] theorem filter_always {α : Type} (o : Option α) : o.filter (fun _ => true) = o := by
  cases o <;> rfl

/-- An event at which every request stays, changed by `f`. -/
theorem State.settle_stays {s : State} {tags : List Byte} {d : Request → Disposition} {f : Request → Request}
    (h : ∀ q ∈ s.req.list, d q = .stay (f q)) :
    s.settle tags d = { s with req := { s.req with list := s.req.list.map f } } := by
  simp [State.settle, filterMap_stays_map h, filterMap_fronts_nil h, filterMap_departure_nil h, orderByKey]

/-- One request goes to the front and the others stay: no claim slot holds a frame of it (R128, R138). -/
theorem State.settle_one_returns {s : State} {tags : List Byte} {d : Request → Disposition} {r r' : Request}
    (hr : r ∈ s.req.list) (htags : tagsDiffer s) (hd : d r = .front r') (htag : r'.tag = r.tag)
    (hs : ∀ q ∈ s.req.list, q.tag ≠ r.tag → d q = .stay q) :
    s.settle tags d = { s with req := { s.req with
      list := r' :: s.req.list.filter (fun q => decide (q.tag ≠ r.tag))
      claimSlot := if s.req.claimSlot = some r.tag then none else s.req.claimSlot } } := by
  obtain ⟨before, after, hlist, hbefore, hafter, hfilter⟩ := split_at_request hr htags
  have hb : ∀ q ∈ before, d q = .stay (id q) := fun q hq => hs q (by rw [hlist]; simp [hq]) (hbefore q hq)
  have ha : ∀ q ∈ after, d q = .stay (id q) := fun q hq => hs q (by rw [hlist]; simp [hq]) (hafter q hq)
  have hgone : s.req.list.filterMap (departure d) = [] := by
    rw [hlist, List.filterMap_append, List.filterMap_cons_none (by rw [departure, hd]), filterMap_departure_nil hb,
      filterMap_departure_nil ha]
    rfl
  have hreturned : s.req.list.filterMap (fronts d) = [r'] := by
    rw [hlist, List.filterMap_append, List.filterMap_cons_some (by rw [fronts, hd]), filterMap_fronts_nil hb,
      filterMap_fronts_nil ha]
    rfl
  have hkept : s.req.list.filterMap (stays d) = s.req.list.filter (fun q => decide (q.tag ≠ r.tag)) := by
    rw [hfilter, hlist, List.filterMap_append, List.filterMap_cons_none (by rw [stays, hd]),
      filterMap_stays_map hb, filterMap_stays_map ha, List.map_id, List.map_id]
  have hslot : s.req.claimSlot.filter (fun g => !r.tag == g)
      = if s.req.claimSlot = some r.tag then none else s.req.claimSlot := by
    cases s.req.claimSlot with
    | none => rfl
    | some g =>
      by_cases h : g = r.tag
      · rw [h, if_pos rfl, Option.filter_some_neg (by simp)]
      · rw [if_neg (by simpa using h), Option.filter_some_pos (by simpa using Ne.symm h)]
  rw [State.settle, hgone, hreturned, hkept]
  simp [orderByKey, insertByKey, htag, hslot]

theorem changed_changed (s : State) (tag : Byte) {f : Request → Request} (hf : ∀ q, (f q).tag = q.tag)
    (g : Request → Request) : changed (changed s tag f) tag g = changed s tag (fun q => g (f q)) := by
  have hlist : (s.req.list.map (fun q => if q.tag = tag then f q else q)).map (fun q => if q.tag = tag then g q else q)
      = s.req.list.map (fun q => if q.tag = tag then g (f q) else q) := by
    rw [List.map_map]
    refine List.map_congr_left fun q _ => ?_
    rw [Function.comp_apply]
    by_cases h : q.tag = tag
    · rw [if_pos h, if_pos ((hf q).trans h), if_pos h]
    · rw [if_neg h, if_neg h, if_neg h]
  rw [changed, changed, hlist, changed]

/-- Two changes of a listed request that agree on it. -/
theorem changed_congr {s : State} {r : Request} (hr : r ∈ s.req.list) (htags : tagsDiffer s)
    {f g : Request → Request} (h : f r = g r) : changed s r.tag f = changed s r.tag g := by
  have hlist : s.req.list.map (fun q => if q.tag = r.tag then f q else q)
      = s.req.list.map (fun q => if q.tag = r.tag then g q else q) := List.map_congr_left fun q hq => by
    by_cases htag : q.tag = r.tag
    · rw [if_pos htag, if_pos htag, eq_of_tag_eq _ htags q r hq hr htag, h]
    · rw [if_neg htag, if_neg htag]
  rw [changed, changed, hlist]

/-- The others are what they were. -/
theorem filter_changed (l : List Request) {tag : Byte} {f : Request → Request} (hf : ∀ q, (f q).tag = q.tag) :
    (l.map (fun q => if q.tag = tag then f q else q)).filter (fun q => decide (q.tag ≠ tag))
      = l.filter (fun q => decide (q.tag ≠ tag)) := by
  induction l with
  | nil => rfl
  | cons q rest ih =>
    by_cases h : q.tag = tag
    · rw [List.map_cons, if_pos h, List.filter_cons_of_neg (by simp [hf, h]), List.filter_cons_of_neg (by simp [h]), ih]
    · rw [List.map_cons, if_neg h, List.filter_cons_of_pos (by simp [h]), List.filter_cons_of_pos (by simp [h]), ih]

/-- What a change made of a request is gone when it departs, but for its attempts. -/
theorem departed_changed (s : State) {r r' : Request} {f : Request → Request} (hf : ∀ q, (f q).tag = q.tag)
    (htag : r'.tag = r.tag) (o : ResultOutcome) (why : Reason) (start : Option Tick) :
    departed (changed s r.tag f) r' o why start = departed s { r with attempts := r'.attempts } o why start := by
  rw [departed, htag, changed, filter_changed _ hf, departed]
  rfl

/-! ### Completion (R54, R65, R135) -/

theorem exec_frameCompleted {s : State} {f : Frame} {slot : SlotRef} (h : sent s f slot) : exec .frameCompleted s
    = .next ((s.completed ⟨f, slot⟩).takeOwn f slot.claimTag).takeWaitingMove := by
  obtain ⟨htransmit, hreceive⟩ := h
  have hframe : s.bus.transmit.frame = some ⟨f, slot⟩ := by rw [htransmit]; rfl
  show onEvent completedDue State.completeFrame s = _
  rw [onEvent_due _ _ s ((completedDue_iff s).2 ⟨_, htransmit, hreceive⟩), State.completeFrame_eq hframe]

/-- A completed JOIN and a frame whose slot no request stands for change no request. -/
theorem State.completed_join (s : State) (f : Frame) : s.completed ⟨f, .join⟩ = { s with
    ctrl := { s.ctrl with joinOwed := false }
    bus := completedBus s.bus false
    req := { s.req with joinSlot := false } } := by
  rw [State.completed, State.settle_all_stay _ _ _ fun q _ => by simp [Request.onCompleted]]
  rfl

/-- The request of a completed CANCEL leaves (R144). -/
theorem State.completed_cancel {s : State} {r : Request} (hr : r ∈ s.req.list) (htags : tagsDiffer s)
    (hst : r.state = .cancelling) (f : Frame) : s.completed ⟨f, .cancel r.tag⟩
      = { departed s r .cancelled .none none with bus := completedBus s.bus false } := by
  have hleaves : r.onCompleted (.cancel r.tag) = .leave .cancelled .none := by simp [Request.onCompleted, hst]
  have hstay : ∀ q ∈ s.req.list, q.tag ≠ r.tag → q.onCompleted (.cancel r.tag) = .stay q := fun q _ hne => by
    simp [Request.onCompleted, Ne.symm hne]
  have hslots : (s.req.cancelSlots.filter (fun c => c.tag != r.tag)).filter (fun c => decide (c.tag ≠ r.tag))
      = s.req.cancelSlots.filter (fun c => decide (c.tag ≠ r.tag)) := by
    rw [List.filter_filter]
    exact List.filter_congr fun c _ => by simp
  rw [State.completed, State.settle_departed (s := s.released ⟨f, .cancel r.tag⟩) hr htags hleaves hstay]
  unfold State.released State.releaseSlot departed
  dsimp only
  rw [hslots]
  rfl

/-- What completion makes of the request of a CLAIM (R135). -/
def Request.claimed (q : Request) : Request :=
  { q with attempts := q.attempts + 1, state := if q.mark then .cancelling else .pending }

@[simp] theorem Request.claimed_tag (q : Request) : q.claimed.tag = q.tag := rfl

/-- LINK and the claim slot are released (R54). -/
def claimReleased (s : State) : State :=
  { s with bus := completedBus s.bus true, req := { s.req with claimSlot := none } }

/-- The request of a completed CLAIM has announced it (R135). -/
theorem State.completed_claim {s : State} {r : Request} (hr : r ∈ s.req.list) (htags : tagsDiffer s)
    (hst : r.state = .sending) (f : Frame) : s.completed ⟨f, .claim r.tag⟩
      = changed (claimReleased s) r.tag Request.claimed := by
  have hstay : ∀ q ∈ s.req.list, q.onCompleted (.claim r.tag)
      = .stay (if q.tag = r.tag then q.claimed else q) := fun q hq => by
    by_cases htag : q.tag = r.tag
    · obtain rfl := eq_of_tag_eq _ htags q r hq hr htag
      simp [Request.onCompleted, Request.claimed, hst]
    · simp [Request.onCompleted, htag, Ne.symm htag]
  rw [State.completed, State.settle_stays (s := s.released ⟨f, .claim r.tag⟩) hstay]
  rfl

/-! ### Stages 7 and 8 of an own frame (R65) -/

theorem State.takeOwn_passed {s : State} {f : Frame} {e : RosterEntry} (h : stage7 (s.entry f.id) f s.now = (e, none))
    (tag : Option Byte) : s.takeOwn f tag = (heard s f.id e).stage8 f tag :=
  State.stage78_passed (s := s.count .good) h tag

theorem State.takeOwn_stopped {s : State} {f : Frame} {e : RosterEntry} {d : Detection}
    (h : stage7 (s.entry f.id) f s.now = (e, some d)) (g : Byte) :
    s.takeOwn f (some g) = ((heard s f.id e).reportStopped g).takeDetection d :=
  (State.stage78_stopped (s := s.count .good) h).2 g

theorem State.takeWaitingMove_elsewhere {s : State} (h : s.ctrl.station ≠ .listening) : s.takeWaitingMove = s := by
  rw [State.takeWaitingMove_eq, if_neg fun hboth => h hboth.2]

/-- No detection takes the station to LISTENING, so no move to ACTIVE is taken after it. -/
theorem State.takeWaitingMove_takeDetection {s : State} (h : s.ctrl.station ≠ .listening) (d : Detection) :
    (s.takeDetection d).takeWaitingMove = s.takeDetection d := by
  refine State.takeWaitingMove_elsewhere ?_
  obtain ⟨c, hd⟩ | hd | hd | hd := s.takeDetection_cases d <;> rw [hd]
  · exact h
  · exact nofun
  · exact nofun
  · exact h

/-- Settles O27. -/
theorem completedJoinAndCancelTakeEffect : Obligations.CompletedJoinAndCancelTakeEffect := by
  refine ⟨fun s f g hsent hpayload hst => ?_, fun s f target r hsent hpayload hst hr htags hstate hseq _ hid => ?_⟩
  · intro t u
    have hexec : exec .frameCompleted s = .next u.takeWaitingMove := by
      rw [exec_frameCompleted hsent, State.completed_join, State.takeOwn_passed (stage7_join hpayload _ _),
        State.stage8, hpayload]
      rfl
    refine ⟨fun hmove => ?_, fun hmove => ?_⟩
    · rw [hexec, State.takeWaitingMove_not (s := u) hmove]
    · rw [hexec, State.takeWaitingMove_eq, if_pos ⟨hmove, hst⟩]
  · intro t u
    have hawake : s.ctrl.station ≠ .listening := by rw [hst]; exact nofun
    have hexec : exec .frameCompleted s = .next (u.takeCancel f target).takeWaitingMove := by
      rw [exec_frameCompleted hsent, State.completed_cancel hr htags hstate,
        State.takeOwn_passed (s := { t with bus := completedBus s.bus false }) (stage7_cancel hpayload hseq _),
        State.stage8, hpayload]
      rfl
    refine ⟨fun x hx howner hxseq htag hsole => ?_, fun hnone => ?_⟩
    · have hmapped : ∀ y ∈ t.table, y.owner = f.id → y.seq = target → ownTag u.ownId y = none := by
        intro y hy hyowner hyseq
        obtain ⟨y', hy', rfl⟩ := List.mem_map.1 hy
        by_cases hdetached : y'.owner = s.ownId ∧ y'.tag = some r.tag
        · rw [if_pos hdetached]
          exact ite_self none
        · rw [if_neg hdetached] at hyowner hyseq ⊢
          obtain rfl := hsole y' hy' hyowner hyseq
          have htagless : y'.tag = none := htag.resolve_left fun h => hdetached ⟨howner.trans hid, h⟩
          rw [ownTag, htagless, ite_self]
      have hlisted : ∃ y ∈ t.table, y.owner = f.id ∧ y.seq = target :=
        ⟨_, List.mem_map_of_mem hx, by split <;> exact ⟨howner, hxseq⟩⟩
      obtain ⟨y, hy⟩ := Option.isSome_iff_exists.1 ((find_isSome_iff (isRecord f.id target) t.table).2 <| by
        obtain ⟨y, hy, hname⟩ := hlisted
        exact ⟨y, hy, (isRecord_iff _ _ y).2 hname⟩)
      obtain ⟨hyowner, hyseq⟩ := (isRecord_iff _ _ y).1 (List.find?_some hy)
      rw [hexec, State.takeCancel_found (s := u) ((receiving_iff _).2 (.inr (.inl hst))) hy
        (hmapped y (List.mem_of_find?_eq_some hy) hyowner hyseq)]
      exact congrArg _ (State.takeWaitingMove_elsewhere hawake)
    · have hnone' : ∀ y ∈ u.table, ¬(y.owner = f.id ∧ y.seq = target) := by
        intro y hy
        obtain ⟨y', hy', rfl⟩ := List.mem_map.1 hy
        have := hnone y' hy'
        split <;> exact this
      rw [hexec, (State.takeCancel_missing (s := u) hnone').2 (.inl hst),
        State.takeWaitingMove_takeDetection (s := u) hawake]
      rfl

/-! ### An own CLAIM at the roster and the table (R67, R135 to R138, R143) -/

/-- Inserted: the start tick is set in a request that has announced its claim (R136, R143). -/
theorem State.reportInserted_claimed {s : State} {tag : Byte} (start : Tick) :
    (changed s tag Request.claimed).reportInserted tag start
      = changed s tag (fun q => { q.claimed with start := some start }) := by
  rw [State.reportInserted, State.updateRequest_changed, changed_changed s tag Request.claimed_tag]
  congr 1
  funext q
  exact if_pos (by cases h : q.mark <;> simp [Request.claimed, h])

section
variable {s : State} {r : Request} (hr : r ∈ s.req.list) (htags : tagsDiffer s)
include hr htags

/-- Refused: a marked request leaves; an unmarked one goes back to WAITING at the front, or leaves at its third claim
(R137, R143). -/
theorem State.reportRefused_claimed :
    (r.mark = false → r.attempts < 2 → (changed s r.tag Request.claimed).reportRefused r.tag
      = { s with req := { s.req with
          list := { r with attempts := r.attempts + 1, state := .waiting, start := none }
            :: s.req.list.filter (fun q => decide (q.tag ≠ r.tag))
          claimSlot := if s.req.claimSlot = some r.tag then none else s.req.claimSlot } })
    ∧ (r.mark = false → 2 ≤ r.attempts → (changed s r.tag Request.claimed).reportRefused r.tag
      = departed s { r with attempts := r.attempts + 1 } .voided .attempts none)
    ∧ (r.mark = true → (changed s r.tag Request.claimed).reportRefused r.tag
      = departed s { r with attempts := r.attempts + 1 } .cancelled .none none) := by
  obtain ⟨-, hmem, htags'⟩ := changed_request hr htags Request.claimed Request.claimed_tag
  have hpending : r.mark = false → r.claimed.state = .pending := fun h => by simp [Request.claimed, h]
  have hothers : ∀ (d : Request → Disposition), ∀ q ∈ (changed s r.tag Request.claimed).req.list, q.tag ≠ r.tag →
      (if q.tag = r.tag then d q else .stay q) = .stay q := fun d q _ hne => if_neg hne
  refine ⟨fun hmark hfew => ?_, fun hmark hthird => ?_, fun hmark => ?_⟩
  · have hreturns : r.claimed.voided = .front { r with attempts := r.attempts + 1, state := .waiting, start := none } :=
      if_pos (Nat.succ_lt_succ hfew)
    rw [State.reportRefused, State.settle_one_returns hmem htags'
      (r' := { r with attempts := r.attempts + 1, state := .waiting, start := none })
      (by rw [if_pos (show r.claimed.tag = r.tag from rfl), hpending hmark]; exact hreturns) rfl
      (hothers _), changed]
    dsimp only
    rw [Request.claimed_tag, filter_changed _ Request.claimed_tag]
  · have hleaves : r.claimed.voided = .leave .voided .attempts := if_neg (by
      show ¬r.attempts + 1 < 3
      omega)
    rw [State.reportRefused, State.settle_departed (o := .voided) (why := .attempts) hmem htags'
      (by rw [if_pos (show r.claimed.tag = r.tag from rfl), hpending hmark]; exact hleaves) (hothers _),
      departed_changed s Request.claimed_tag r.claimed_tag]
    rfl
  · rw [State.reportRefused, State.settle_departed (o := .cancelled) (why := .none) hmem htags'
      (by simp [Request.claimed, hmark]) (hothers _), departed_changed s Request.claimed_tag r.claimed_tag]
    rfl

/-- The roster stopped the claim: a marked request leaves, an unmarked one stays as it is (R138, R143). -/
theorem State.reportStopped_claimed :
    (r.mark = false → (changed s r.tag Request.claimed).reportStopped r.tag = changed s r.tag Request.claimed)
    ∧ (r.mark = true → (changed s r.tag Request.claimed).reportStopped r.tag
      = departed s { r with attempts := r.attempts + 1 } .cancelled .none none) := by
  obtain ⟨-, hmem, htags'⟩ := changed_request hr htags Request.claimed Request.claimed_tag
  refine ⟨fun hmark => ?_, fun hmark => ?_⟩
  · refine State.settle_all_stay _ _ _ fun q hq => if_neg fun ⟨htag, hst⟩ => ?_
    obtain rfl := eq_of_tag_eq _ htags' q r.claimed hq hmem htag
    simp [Request.claimed, hmark] at hst
  · rw [State.reportStopped, State.settle_departed (o := .cancelled) (why := .none) hmem htags'
      (by simp [Request.claimed, hmark]) (fun q _ hne => if_neg fun h => hne h.1),
      departed_changed s Request.claimed_tag r.claimed_tag]
    rfl

end

section
variable {s : State} {f : Frame} {c : ClaimFields} {r : Request} {e : RosterEntry}

/-- An own CLAIM that the roster accepts goes on to the table. -/
theorem exec_claimCompleted_passed (hsent : sent s f (.claim r.tag)) (hpayload : f.payload = claimOf c)
    (hr : r ∈ s.req.list) (htags : tagsDiffer s) (hst : r.state = .sending)
    (hstage : stage7 (s.entry f.id) f s.now = (e, none)) : exec .frameCompleted s
      = .next ((changed (heard (claimReleased s) f.id e) r.tag Request.claimed).takeClaim f c
          (some r.tag)).takeWaitingMove := by
  rw [exec_frameCompleted hsent, State.completed_claim hr htags hst,
    State.takeOwn_passed (s := changed (claimReleased s) r.tag Request.claimed) hstage, State.stage8, hpayload]
  rfl

/-- An own CLAIM that the roster stops does not reach the table. -/
theorem exec_claimCompleted_stopped {d : Detection} (hsent : sent s f (.claim r.tag)) (hr : r ∈ s.req.list)
    (htags : tagsDiffer s) (hst : r.state = .sending) (hactive : s.ctrl.station = .active)
    (hstage : stage7 (s.entry f.id) f s.now = (e, some d)) : exec .frameCompleted s
      = .next (((changed (heard (claimReleased s) f.id e) r.tag Request.claimed).reportStopped r.tag).takeDetection
          d) := by
  have hawake : (State.reportStopped (changed (heard (claimReleased s) f.id e) r.tag Request.claimed)
      r.tag).ctrl.station ≠ .listening := by
    show s.ctrl.station ≠ .listening
    rw [hactive]
    exact nofun
  rw [exec_frameCompleted hsent, State.completed_claim hr htags hst, SlotRef.claimTag,
    State.takeOwn_stopped (s := changed (claimReleased s) r.tag Request.claimed) hstage]
  exact congrArg _ (State.takeWaitingMove_takeDetection hawake d)

end

/-- Settles O28. -/
theorem completedClaimIsInserted : Obligations.CompletedClaimIsInserted := by
  intro s f c r hsent hpayload hactive hr htags hst hseq hgroup hadmitted x t
  have hawake : s.ctrl.station ≠ .listening := by rw [hactive]; exact nofun
  have hinserted := (State.takeClaim_admitted (f := f) (c := c)
    (s := changed (heard (claimReleased s) f.id (entryAfter s f (some c.group))) r.tag Request.claimed)
    (.inr hactive) hadmitted).2 r.tag
  rw [exec_claimCompleted_passed hsent hpayload hr htags hst (stage7_claim hpayload hseq hgroup _)]
  refine congrArg _ (Eq.trans (congrArg State.takeWaitingMove hinserted) ?_)
  rw [State.takeWaitingMove_elsewhere]
  · exact State.reportInserted_claimed (s := { heard (claimReleased s) f.id (entryAfter s f (some c.group)) with
      table := insertRecord x s.table }) (tag := r.tag) x.start
  · exact hawake

/-- Settles O29. -/
theorem completedClaimMayBeRefused : Obligations.CompletedClaimMayBeRefused := by
  intro s f c r k hsent hpayload hactive hr htags hst hseq hgroup hk u r' after
  have hawake : s.ctrl.station ≠ .listening := by rw [hactive]; exact nofun
  have hrefusal : refusal s f c = some k := by
    obtain ⟨htwice, rfl⟩ | ⟨honce, ⟨hrange, rfl⟩ | ⟨hfit, rfl⟩⟩ := hk
    · exact refusal_twice c htwice
    · exact (refusal_once c fun ⟨x, hx, hname⟩ => honce x hx hname).2.1 hrange
    · exact (refusal_once c fun ⟨x, hx, hname⟩ => honce x hx hname).2.2 hfit
  have hrefused := (State.takeClaim_refused (f := f) (c := c) (k := k)
    (s := changed (heard (claimReleased s) f.id (entryAfter s f (some c.group))) r.tag Request.claimed)
    (.inr hactive) hrefusal).2 r.tag
  have hexec := exec_claimCompleted_passed (e := entryAfter s f (some c.group)) hsent hpayload hr htags hst
    (stage7_claim hpayload hseq hgroup s.now)
  have hmoved := State.takeWaitingMove_takeDetection
    (s := State.reportRefused (changed (heard (claimReleased s) f.id (entryAfter s f (some c.group))) r.tag
      Request.claimed) r.tag) hawake ⟨k, some f.header, none, some c, none⟩
  rw [hrefused, hmoved] at hexec
  obtain ⟨hreturns, hthird, hmarked⟩ := State.reportRefused_claimed
    (s := heard (claimReleased s) f.id (entryAfter s f (some c.group))) hr htags
  refine ⟨fun hmark hfew => ?_, fun hmark hmany => ?_, fun hmark => ?_⟩
  · rw [hexec, hreturns hmark hfew]
    rfl
  · rw [hexec, hthird hmark hmany]
    rfl
  · rw [hexec, hmarked hmark]
    rfl

/-- Settles O30. -/
theorem completedClaimMayBeStopped : Obligations.CompletedClaimMayBeStopped := by
  intro s f c r d e hsent hpayload hactive hr htags hst _ hcase u r'
  have hstage : stage7 (s.entry f.id) f s.now = (e, some d) := by
    obtain ⟨expected, hexpected, hne, rfl, rfl⟩ | ⟨hseq, g, hgroup, hne, rfl, rfl⟩ := hcase
    · have hkind : f.kind ≠ .join := by
        rw [Frame.kind, hpayload]
        exact nofun
      exact stage7_gap hkind hexpected hne _
    · exact stage7_otherGroup hpayload hseq hgroup hne _
  have hexec := exec_claimCompleted_stopped hsent hr htags hst hactive hstage
  obtain ⟨hunmarked, hmarked⟩ := State.reportStopped_claimed (s := heard (claimReleased s) f.id e) hr htags
  refine ⟨fun hmark => ?_, fun hmark => ?_⟩
  · have hclaimed : r.claimed = { r' with state := .pending } := by simp [Request.claimed, hmark, r']
    rw [hexec, hunmarked hmark, changed_congr (s := heard (claimReleased s) f.id e)
      (g := fun _ => { r' with state := .pending }) hr htags hclaimed]
    rfl
  · rw [hexec, hmarked hmark]
    rfl

end Sys2Proof.Machine
end

section
/-!
PROOFS. The rise, the quiesce end and the stuck line (O42 to O44), the timed events (O45 to O48) and the budget's
stretches (O49).
-/

namespace Sys2Proof.Machine

open Sys2Proof.Said

/-! ### The STOP line after a fall (R85, R87, R105 to R107) -/

/-- The line has risen: the STOP Monitor and the Controller afterwards (R85, R105). -/
def State.risen (s : State) (ctrl : Controller) (c : Classification) (quiesceEnd : Option Tick) : State :=
  { s with
    ctrl := ctrl
    stop := { s.stop with lineLow := false, fallTick := none, lineTaken := true, classification := c,
                          quiesceEnd := quiesceEnd } }

theorem laterEnd_eq (held : Option Tick) (candidate : Tick) : some (laterEnd held candidate)
    = held.elim (some candidate) fun t => if later t candidate = true then some t else some candidate := by
  cases held with
  | none => rfl
  | some t => exact apply_ite some _ _ _

/-- With LISTENING remembered a rise restarts the join interval (R85). -/
def Controller.restarted (c : Controller) (restart : Tick) : Controller :=
  { c with joinEnd := if c.remembered = some .listening then some restart else c.joinEnd }

theorem Controller.restarted_eq (c : Controller) (restart : Tick) : c.restarted restart
    = if c.remembered = some .listening then { c with joinEnd := some restart } else c := by
  unfold Controller.restarted
  by_cases h : c.remembered = some .listening
  · rw [if_pos h, if_pos h]
  · rw [if_neg h, if_neg h]

/-- How long the station stays quiet after a rise, by the pulse's class (R105). -/
def Classification.quiet (p : Params) : Classification → Nat
  | .long _ => p.qLong
  | .none | .short => p.qShort

/-- A rise after an unclassified pulse, which it makes a SHORT one, and after a classified one. -/
theorem State.takeRise_eq (s : State) (restart : Tick) (hrestart : restart = plus s.now s.params.joinInterval) :
    (s.stop.classification = .none → s.takeRise = (s.count .short).risen (s.ctrl.restarted restart) .short
      (some (laterEnd s.stop.quiesceEnd (plus s.now s.params.qShort))))
    ∧ (s.stop.classification ≠ .none → s.takeRise = s.risen (s.ctrl.restarted restart) s.stop.classification
      (some (laterEnd s.stop.quiesceEnd (plus s.now (s.stop.classification.quiet s.params))))) := by
  rw [Controller.restarted_eq, hrestart]
  refine ⟨fun h => ?_, fun h => ?_⟩
  · rw [State.takeRise, h]
    rfl
  · have hnot : (s.stop.classification == .none) = false := beq_eq_false_iff_ne.2 h
    rw [State.takeRise, hnot]
    rfl

/-- Settles O42. -/
theorem riseSetsTheQuiesceEnd : Obligations.RiseSetsTheQuiesceEnd := by
  intro s candidate hst hlow hhigh htaken hcandidate restart
  have hexec : exec .stopRise s = .next s.takeRise := by
    show onEvent riseDue State.takeRise s = _
    rw [onEvent_due _ _ s ((isDue_iff_happens .stopRise s).2 ⟨hst, hlow, hhigh, htaken⟩)]
  obtain ⟨hfirst, hclassified⟩ := s.takeRise_eq restart rfl
  by_cases hnone : s.stop.classification = .none
  · have hcandidate' : plus s.now s.params.qShort = candidate := by rw [hcandidate, hnone]; rfl
    rw [hexec, hfirst hnone, laterEnd_eq, hcandidate', if_pos hnone, if_pos hnone]
    cases s.stop.quiesceEnd <;> rfl
  · have hcandidate' : plus s.now (s.stop.classification.quiet s.params) = candidate := by
      rw [hcandidate]
      cases s.stop.classification <;> rfl
    rw [hexec, hclassified hnone, laterEnd_eq, hcandidate', if_neg hnone, if_neg hnone]
    cases s.stop.quiesceEnd <;> rfl

/-- Settles O43. -/
theorem quiesceEndResumesTheRememberedState : Obligations.QuiesceEndResumesTheRememberedState := by
  intro s t w hst hend hreached hremembered
  have hexec : exec .quiesceEnd s = .next s.endQuiesce := by
    show onEvent quiesceEndDue State.endQuiesce s = _
    rw [onEvent_due _ _ s ((isDue_iff_happens .quiesceEnd s).2 ⟨hst, t, hend, (reached_iff _ _).1 hreached⟩)]
  refine ⟨fun hlow => ?_, fun hhigh => ?_⟩
  · rw [hexec, State.endQuiesce, if_pos hlow]
  · rw [hexec, State.endQuiesce, if_neg (by rw [hhigh]; exact Bool.false_ne_true), State.resumeWork]
    dsimp only
    rw [hremembered]
    dsimp only
    have hlistening : decide (w.toState = .listening) = decide (w = .listening) := by cases w <;> rfl
    rw [State.placeJoin_eq, ← hlistening]
    rfl

/-- Settles O44. -/
theorem stuckLineRaisesBusFaultOnce : Obligations.StuckLineRaisesBusFaultOnce := by
  intro s fall hon hlow hline hfall hreached
  refine ⟨fun hfirst => ?_, fun hraised => ?_⟩
  · show execBusFault s = _
    rw [execBusFault, onEvent_due _ _ s ((isDue_iff_happens .busFault s).2
      ⟨hon, hlow, hline, hfirst, fall, hfall, (reached_iff _ _).1 hreached⟩)]
    rfl
  · show execBusFault s = _
    rw [execBusFault, onEvent, busFaultDue, hraised]
    rfl

/-! ### Timed events of the Controller and the Claim Table (R28, R29, R84) -/

/-- Settles O45. -/
theorem joinIntervalEndMakesTheStationActive : Obligations.JoinIntervalEndMakesTheStationActive := by
  intro s t hst hmove hend hreached
  have hexec : exec .joinIntervalEnd s = .next s.endJoinInterval := by
    show onEvent joinEndDue State.endJoinInterval s = _
    rw [onEvent_due _ _ s
      ((isDue_iff_happens .joinIntervalEnd s).2 ⟨hst, hmove, t, hend, (reached_iff _ _).1 hreached⟩)]
  refine ⟨fun hoff => ?_, fun hon => ?_⟩
  · rw [hexec, State.endJoinInterval, if_neg (by rw [hoff]; exact Bool.false_ne_true)]
    rfl
  · rw [hexec, State.endJoinInterval, if_pos hon]

/-- A confirmed request is confirmed once, however often that is reported. -/
theorem reportsConfirmed_same {tags : List Byte} {g : Byte} (hsome : tags ≠ []) (hall : ∀ t ∈ tags, t = g) (s : State) :
    tags.foldl State.reportConfirmed s = s.reportConfirmed g := by
  have htwice : ∀ u : State, (u.reportConfirmed g).reportConfirmed g = u.reportConfirmed g := fun u => by
    rw [State.reportConfirmed, State.reportConfirmed, State.updateRequest_changed, State.updateRequest_changed,
      changed_changed _ _ fun q => by split <;> rfl]
    congr 1
    funext q
    by_cases h : q.state = .pending
    · rw [if_pos h]
      exact if_neg (show RequestState.granted ≠ .pending from nofun)
    · rw [if_neg h, if_neg h]
  have hfold : ∀ l : List Byte, (∀ t ∈ l, t = g) → ∀ u : State, l.foldl State.reportConfirmed (u.reportConfirmed g)
      = u.reportConfirmed g := by
    intro l hl
    induction l with
    | nil => exact fun _ => rfl
    | cons t rest ih =>
      intro u
      rw [List.foldl_cons, hl t List.mem_cons_self, htwice]
      exact ih (fun q hq => hl q (List.mem_cons_of_mem _ hq)) u
  cases tags with
  | nil => exact absurd rfl hsome
  | cons t rest =>
    rw [List.foldl_cons, hall t List.mem_cons_self]
    exact hfold rest (fun q hq => hall q (List.mem_cons_of_mem _ hq)) s

section
variable {s : State} {x : ClaimRecord} (hx : x ∈ s.table)
  (hsole : ∀ y ∈ s.table, y.owner = x.owner → y.seq = x.seq → y = x)
include hx hsole

/-- The hold of the record with this name is over: it is confirmed in its place, and its own request hears of it
(R28). -/
theorem State.expireHold_eq (hpending : x.state = .pending)
    (hreached : reached (x.received + BitVec.ofNat 32 (s.params.H + s.params.G)) s.now = true) :
    let rewritten : State := { s with table := s.table.map (fun y =>
      if y.owner = x.owner ∧ y.seq = x.seq then { y with state := .confirmed } else y) }
    (ownTag s.ownId x = none → s.expireHold x.owner x.seq = rewritten)
    ∧ ∀ g, ownTag s.ownId x = some g → s.expireHold x.owner x.seq = rewritten.reportConfirmed g := by
  intro rewritten
  have hover : ∀ y ∈ s.table, holdOver s x.owner x.seq y = true ↔ y.owner = x.owner ∧ y.seq = x.seq := by
    intro y hy
    refine ⟨fun h => ?_, fun ⟨howner, hseq⟩ => ?_⟩
    · rw [holdOver, Bool.and_eq_true, Bool.and_eq_true] at h
      exact (isRecord_iff _ _ y).1 h.1.1
    · rw [hsole y hy howner hseq, holdOver, (isRecord_iff x.owner x.seq x).2 ⟨rfl, rfl⟩, hpending]
      exact hreached
  have htable : s.table.map (fun y => if holdOver s x.owner x.seq y then { y with state := .confirmed } else y)
      = rewritten.table := List.map_congr_left fun y hy => if_congr (hover y hy) rfl rfl
  have htags : ∀ t ∈ voidedTags s.ownId (s.table.filter (holdOver s x.owner x.seq)), ownTag s.ownId x = some t := by
    intro t ht
    obtain ⟨y, hy, htag⟩ := List.mem_filterMap.1 ht
    obtain ⟨hlisted, hname⟩ := List.mem_filter.1 hy
    obtain ⟨howner, hseq⟩ := (hover y hlisted).1 hname
    rw [← hsole y hlisted howner hseq]
    exact htag
  have hexpire : s.expireHold x.owner x.seq
      = (voidedTags s.ownId (s.table.filter (holdOver s x.owner x.seq))).foldl State.reportConfirmed rewritten := by
    rw [State.expireHold, htable]
  refine ⟨fun hnone => ?_, fun g hg => ?_⟩
  · have hempty : voidedTags s.ownId (s.table.filter (holdOver s x.owner x.seq)) = [] :=
      List.eq_nil_iff_forall_not_mem.2 fun t ht => Option.some_ne_none t ((htags t ht).symm.trans hnone)
    rw [hexpire, hempty]
    rfl
  · have hmem : g ∈ voidedTags s.ownId (s.table.filter (holdOver s x.owner x.seq)) :=
      List.mem_filterMap.2 ⟨x, List.mem_filter.2 ⟨hx, (hover x hx).2 ⟨rfl, rfl⟩⟩, hg⟩
    rw [hexpire, reportsConfirmed_same (List.ne_nil_of_mem hmem)
      fun t ht => Option.some.inj ((htags t ht).symm.trans hg)]

end

/-- Settles O46. -/
theorem recordsConfirmAndRetire : Obligations.RecordsConfirmAndRetire := by
  intro s x hx hsole rewritten
  refine ⟨fun hpending hreached => ?_, fun hreached => ?_⟩
  · have hexec : exec (.holdExpiry x.owner x.seq) s = .next (s.expireHold x.owner x.seq) := by
      show onEvent (holdDue x.owner x.seq) (State.expireHold x.owner x.seq) s = _
      rw [onEvent_due _ _ s ((isDue_iff_happens (.holdExpiry x.owner x.seq) s).2
        ⟨x, hx, rfl, rfl, hpending, (reached_iff _ _).1 hreached⟩)]
    obtain ⟨hpeer, hown⟩ := State.expireHold_eq hx hsole hpending hreached
    refine ⟨fun hnot => ?_, fun g howner htag => ?_⟩
    · rw [hexec, hpeer]
      obtain hother | htagless := hnot
      · exact if_neg hother
      · rw [ownTag, htagless, ite_self]
    · rw [hexec, hown g (by rw [ownTag, if_pos howner, htag])]
      rfl
  · show execRetirement x.owner x.seq s = _
    rw [execRetirement, onEvent_due _ _ s ((isDue_iff_happens (.retirement x.owner x.seq) s).2
      ⟨x, hx, rfl, rfl, (reached_iff _ _).1 hreached⟩)]
    have hretired : ∀ y ∈ s.table, (!retired s x.owner x.seq y) = decide ¬(y.owner = x.owner ∧ y.seq = x.seq) := by
      intro y hy
      by_cases hname : y.owner = x.owner ∧ y.seq = x.seq
      · rw [hsole y hy hname.1 hname.2, decide_eq_false (not_not.2 ⟨rfl, rfl⟩), retired,
          (isRecord_iff x.owner x.seq x).2 ⟨rfl, rfl⟩]
        exact congrArg not hreached
      · rw [decide_eq_true hname, retired, Bool.eq_false_iff.2 fun h => hname ((isRecord_iff _ _ y).1 h)]
        rfl
    rw [List.filter_congr hretired]

/-! ### Timed events of the Request Unit and the Output Unit (R132, R139 to R141, R155, R156) -/

/-- Settles O47. -/
theorem headMovesAndDeadlinesExpire : Obligations.HeadMovesAndDeadlinesExpire := by
  refine fun s r htags hst => ⟨fun before after hlist hbefore hactive hidle hroom => ?_, fun hr hover => ?_⟩
  · intro t
    have hr : r ∈ s.req.list := by rw [hlist]; simp
    have hhead : s.head = some r := by
      rw [State.head, hlist, List.find?_append, List.find?_eq_none.2 fun q hq => by simpa using hbefore q hq,
        List.find?_cons_of_pos (by simpa using hst)]
      rfl
    show onEvent headDue State.moveHead s = _
    rw [onEvent_due _ _ s ((isDue_iff_happens .headToSending s).2 ⟨hactive, hroom, hidle, r, hr, hst⟩),
      State.moveHead, hhead]
    rfl
  · show execDeadlineExpiry r.tag s = _
    rw [execDeadlineExpiry, onEvent_due _ _ s ((isDue_iff_happens (.deadlineExpiry r.tag) s).2
      ⟨r, s.request_eq_some r hr htags, hst, hover⟩), State.leaveRequest_departed hr htags]
    rfl

/-- A busy channel's pulse ends with DONE for the request of its tag (R141, R156). -/
theorem State.endPulse_departed {s : State} {e : ChannelEntry} {q : Request} (hq : q ∈ s.req.list)
    (htags : tagsDiffer s) (htag : q.tag = e.tag) (c : Channel) :
    s.endPulse c e = departed { s with out := s.out.set c.toNat none c.isLt } q .done .none q.start := by
  rw [State.endPulse, ← htag, State.leaveRequest_departed (s := s.setChannel c none) hq htags]
  rfl

/-- Settles O48. -/
theorem outputRisesAtTheStartAndFallsAtTheEnd : Obligations.OutputRisesAtTheStartAndFallsAtTheEnd := by
  refine ⟨fun s c => ⟨rfl, Option.isSome_iff_ne_none⟩, fun s r t hr htags hstart hreached => ?_,
    fun s c e r hbusy hreached hr htag htags => ?_⟩
  · intro c fired
    have hrequest := s.request_eq_some r hr htags
    have hdue : r.state = .granted ∨ r.state = .cancelling ∧ s.onBus (.cancel r.tag) = false →
        startDue r.tag s = true := fun h => (startDue_iff r.tag s).2 ⟨r, t, hrequest, hstart, hreached, h⟩
    have hfire : r.state = .granted → exec (.startTickReached r.tag) s = s.fire r := fun hst => by
      show execStartTickReached r.tag s = _
      rw [execStartTickReached, if_pos (hdue (.inl hst)), hrequest]
      exact if_pos hst
    have hfill : ∀ u : State, u.port.image = s.port.image → u.fillChannel r = fired u := fun u himage => by
      have hclass : u.classOf r.cls = s.classOf r.cls := by
        rw [State.classOf, State.classOf, State.image, State.image, himage]
      rw [State.fillChannel, State.channelOf, hclass, hstart]
      rfl
    refine ⟨fun hst hidle => ⟨?_, ?_⟩, fun e q hst hbusy hended hq hqtag hne => ?_, fun hst hoff => ?_⟩
    · rw [hfire hst, State.fire, hidle]
      exact congrArg _ (hfill s rfl)
    · exact congrArg Option.isSome (Vector.getElem_set_self _)
    · rw [hfire hst, State.fire, hbusy]
      dsimp only
      rw [if_pos hended, State.endPulse_departed hq htags hqtag,
        hfill (departed { s with out := s.out.set c.toNat none c.isLt } q .done .none q.start) rfl]
      have hset : (s.out.set c.toNat none c.isLt).set c.toNat
            (some ⟨r.tag, t + BitVec.ofNat 32 (s.classOf r.cls).duration⟩) c.isLt
          = s.out.set c.toNat (some ⟨r.tag, t + BitVec.ofNat 32 (s.classOf r.cls).duration⟩) c.isLt := by
        simp
      exact congrArg _ (congrArg (fun out => { fired (departed s q .done .none q.start) with out := out }) hset)
    · show execStartTickReached r.tag s = _
      rw [execStartTickReached, if_pos (hdue (.inr ⟨hst, hoff⟩)), hrequest]
      dsimp only
      rw [if_neg (by rw [hst]; exact nofun), State.leaveRequest_departed hr htags]
      rfl
  · show onEvent (channelEndDue c) (State.endChannel c) s = _
    rw [onEvent_due _ _ s ((isDue_iff_happens (.channelEnd c) s).2 ⟨e, hbusy, (reached_iff _ _).1 hreached⟩),
      State.endChannel, hbusy]
    exact congrArg _ (State.endPulse_departed hr htags htag c)

/-! ### The budget (R12) -/

/-- Settles O49. -/
theorem fewStretchesDecideTheBudget : Obligations.FewStretchesDecideTheBudget :=
  fun p len table t w hpos hlen => budgetOk_iff p len table t w hpos hlen

end Sys2Proof.Machine
end

section
/-!
PROOFS. An event that removes records and answers every request, in the words of the statements: the order of the
requests that go to the front, then the whole state (R30, R31, R128, R138).
-/

namespace Sys2Proof.Machine

open Sys2Proof.Said

/-! ### The order of the front (R128) -/

theorem insertByKey_eq (key : Request → Nat) (x : Request) {before after : List Request}
    (hbefore : ∀ y ∈ before, key y ≤ key x) (hafter : ∀ y ∈ after, key x < key y) :
    insertByKey key x (before ++ after) = before ++ x :: after := by
  induction before with
  | nil =>
    cases after with
    | nil => rfl
    | cons y rest => exact if_pos (hafter y List.mem_cons_self)
  | cons y rest ih =>
    rw [List.cons_append, insertByKey, if_neg (not_lt.2 (hbefore y List.mem_cons_self)),
      ih fun z hz => hbefore z (List.mem_cons_of_mem _ hz)]
    rfl

/-- The first request with a tag. -/
def tagged (l : List Request) (g : Byte) : Option Request := l.find? (fun r => decide (r.tag = g))

theorem tagged_cons_same {r : Request} {g : Byte} (h : r.tag = g) (l : List Request) : tagged (r :: l) g = some r :=
  List.find?_cons_of_pos (decide_eq_true h)

theorem tagged_cons_other {r : Request} {g : Byte} (h : r.tag ≠ g) (l : List Request) :
    tagged (r :: l) g = tagged l g :=
  List.find?_cons_of_neg (by simpa using h)

theorem tagged_none {l : List Request} {g : Byte} (h : ∀ r ∈ l, r.tag ≠ g) : tagged l g = none :=
  List.find?_eq_none.2 fun r hr => by simpa using h r hr

/-- The requests with these tags, in the order of the tags, and then the others as they stand. -/
def inTagOrder (tags : List Byte) (l : List Request) : List Request :=
  tags.filterMap (tagged l) ++ l.filter (fun r => decide (r.tag ∉ tags))

theorem find_concat_other {l : List Request} {x : Request} {g : Byte} (h : x.tag ≠ g) :
    tagged (l ++ [x]) g = tagged l g := by
  rw [tagged, tagged, List.find?_append, List.find?_cons_of_neg (by simpa using h), List.find?_nil, Option.or_none]

theorem filterMap_find_concat {tags : List Byte} {l : List Request} {x : Request} (h : x.tag ∉ tags) :
    tags.filterMap (tagged (l ++ [x]))
      = tags.filterMap (tagged l) :=
  List.filterMap_congr fun _ hg => find_concat_other fun heq => h (heq ▸ hg)

/-- The requests that stand for tags carry those tags. -/
theorem tag_mem_of_found {tags : List Byte} {l : List Request} {y : Request}
    (h : y ∈ tags.filterMap (tagged l)) : y ∈ l ∧ y.tag ∈ tags := by
  obtain ⟨g, hg, hfind⟩ := List.mem_filterMap.1 h
  have htag : y.tag = g := by simpa using List.find?_some hfind
  exact ⟨List.mem_of_find?_eq_some hfind, htag ▸ hg⟩

/-- A further request goes to the place its tag gives it. -/
theorem insertByKey_inTagOrder {tags : List Byte} (htags : tags.Nodup) {l : List Request} {x : Request}
    (hnew : ∀ y ∈ l, y.tag ≠ x.tag) :
    insertByKey (placeOf tags) x (inTagOrder tags l) = inTagOrder tags (l ++ [x]) := by
  by_cases hlisted : x.tag ∈ tags
  · obtain ⟨before, after, rfl⟩ := List.append_of_mem hlisted
    rw [List.nodup_middle, List.nodup_cons, List.mem_append, not_or] at htags
    obtain ⟨⟨hbefore, hafter⟩, hrest⟩ := htags
    have hapart : ∀ g ∈ after, g ∉ before := fun g hg hg' => (List.nodup_append.1 hrest).2.2 g hg' g hg rfl
    have hkey : placeOf (before ++ x.tag :: after) x = before.length := by
      rw [placeOf, List.idxOf_append_of_notMem hbefore, List.idxOf_cons_self, Nat.add_zero]
    have hlate : ∀ y : Request, y.tag ≠ x.tag → y.tag ∉ before →
        before.length < placeOf (before ++ x.tag :: after) y := fun y hne hnot => by
      rw [placeOf, List.idxOf_append_of_notMem hnot, List.idxOf_cons_ne _ (Ne.symm hne)]
      omega
    have hearly : ∀ y : Request, y.tag ∈ before → placeOf (before ++ x.tag :: after) y ≤ before.length := fun y hy => by
      rw [placeOf, List.idxOf_append_of_mem hy]
      exact (List.idxOf_lt_length_of_mem hy).le
    have hnone : tagged l x.tag = none :=
      List.find?_eq_none.2 fun y hy => by simpa using hnew y hy
    have hsome : tagged (l ++ [x]) x.tag = some x := by
      rw [tagged, List.find?_append, show l.find? (fun r => decide (r.tag = x.tag)) = none from hnone,
        List.find?_cons_of_pos (by simp)]
      rfl
    have hothers : (l ++ [x]).filter (fun r => decide (r.tag ∉ before ++ x.tag :: after))
        = l.filter (fun r => decide (r.tag ∉ before ++ x.tag :: after)) := by
      rw [List.filter_append, List.filter_cons_of_neg (by simp), List.filter_nil, List.append_nil]
    rw [inTagOrder, inTagOrder, hothers, List.filterMap_append, List.filterMap_append,
      List.filterMap_cons_none hnone, List.filterMap_cons_some hsome, filterMap_find_concat hbefore,
      filterMap_find_concat hafter, List.append_assoc, List.append_assoc, List.cons_append]
    refine insertByKey_eq _ _ (fun y hy => ?_) fun y hy => ?_
    · rw [hkey]
      exact hearly y (tag_mem_of_found hy).2
    · rw [hkey]
      obtain hy | hy := List.mem_append.1 hy
      · obtain ⟨hl, htag⟩ := tag_mem_of_found hy
        exact hlate y (hnew y hl) (hapart _ htag)
      · obtain ⟨hl, hnot⟩ := List.mem_filter.1 hy
        exact hlate y (hnew y hl) fun hmem => of_decide_eq_true hnot (List.mem_append_left _ hmem)
  · have hkey : placeOf tags x = tags.length := List.idxOf_eq_length hlisted
    have hothers : (l ++ [x]).filter (fun r => decide (r.tag ∉ tags))
        = l.filter (fun r => decide (r.tag ∉ tags)) ++ [x] := by
      rw [List.filter_append, List.filter_cons_of_pos (by simpa using hlisted), List.filter_nil]
    have hlast := insertByKey_eq (placeOf tags) x (before := inTagOrder tags l) (after := [])
      (fun y _ => hkey ▸ List.idxOf_le_length) nofun
    rw [List.append_nil] at hlast
    rw [hlast, inTagOrder, inTagOrder, hothers, filterMap_find_concat hlisted, List.append_assoc]

/-- Requests in the order of the records with their tags (R128). -/
theorem orderByKey_placeOf {tags : List Byte} (htags : tags.Nodup) {l : List Request}
    (hl : (l.map Request.tag).Nodup) : orderByKey (placeOf tags) l = inTagOrder tags l := by
  induction l using List.reverseRecOn with
  | nil =>
    have hnone : tags.filterMap (tagged []) = [] :=
      List.filterMap_eq_nil_iff.2 fun _ _ => rfl
    rw [inTagOrder, hnone]
    rfl
  | append_singleton l x ih =>
    rw [List.map_append, List.map_singleton] at hl
    obtain ⟨hrest, -, hapart⟩ := List.nodup_append.1 hl
    rw [orderByKey, List.foldl_append]
    show insertByKey (placeOf tags) x (orderByKey (placeOf tags) l) = _
    rw [ih hrest]
    exact insertByKey_inTagOrder htags fun y hy =>
      hapart _ (List.mem_map_of_mem hy) _ (List.mem_singleton_self _)

/-! ### The tags and the requests that an event concerns -/

theorem voidedTags_eq (s : State) (removed : ClaimRecord → Bool) :
    voidedTags s.ownId (s.table.filter removed) = removedTags s removed := by
  rw [voidedTags, removedTags, List.filterMap_filter, List.filterMap_filter]
  refine List.filterMap_congr fun x _ => ?_
  by_cases howner : x.owner = s.ownId
  · simp [ownTag, howner]
  · simp [ownTag, howner]

theorem mem_removedTags_iff (s : State) (removed : ClaimRecord → Bool) (g : Byte) :
    g ∈ removedTags s removed ↔ struck s removed g = true := by
  simp only [removedTags, struck, List.mem_filterMap, List.mem_filter, List.any_eq_true, Bool.and_eq_true,
    decide_eq_true_eq]
  exact exists_congr fun x => by tauto

theorem removedTags_nodup {s : State} (h : ownTagsDiffer s) (removed : ClaimRecord → Bool) :
    (removedTags s removed).Nodup := by
  refine List.Nodup.sublist (List.Sublist.filterMap _ ?_) h
  exact List.monotone_filter_right _ fun x hx => by
    rw [Bool.and_eq_true] at hx
    exact hx.2

theorem returning_eq_some_iff (fate : Request → Disposition) (r q : Request) :
    returning fate r = some q ↔ fate r = .front q := by
  unfold returning
  cases fate r <;> simp

/-- Where the requests have tags of their own, the one that returns for a tag is found before or after it returns. -/
theorem find_returning {fate : Request → Disposition} {l : List Request} (hl : (l.map Request.tag).Nodup)
    (hkeeps : ∀ r ∈ l, ∀ q, fate r = .front q → q.tag = r.tag) (g : Byte) :
    (tagged l g).bind (returning fate) = tagged (l.filterMap (returning fate)) g := by
  induction l with
  | nil => rfl
  | cons r rest ih =>
    rw [List.map_cons, List.nodup_cons] at hl
    have hrest := ih hl.2 fun q hq => hkeeps q (List.mem_cons_of_mem _ hq)
    have htag : ∀ q, returning fate r = some q → q.tag = r.tag := fun q hq =>
      hkeeps r List.mem_cons_self q ((returning_eq_some_iff fate r q).1 hq)
    by_cases hr : r.tag = g
    · rw [tagged_cons_same hr, Option.bind_some]
      cases hreturns : returning fate r with
      | some q => rw [List.filterMap_cons_some hreturns, tagged_cons_same ((htag q hreturns).trans hr)]
      | none =>
        have hnone : tagged rest g = none := tagged_none fun q hq heq =>
          hl.1 (hr.trans heq.symm ▸ List.mem_map_of_mem hq)
        rw [List.filterMap_cons_none hreturns, ← hrest, hnone, Option.bind_none]
    · rw [tagged_cons_other hr, hrest]
      cases hreturns : returning fate r with
      | some q =>
        rw [List.filterMap_cons_some hreturns,
          tagged_cons_other (fun (heq : q.tag = g) => hr ((htag q hreturns).symm.trans heq))]
      | none => rw [List.filterMap_cons_none hreturns]

/-- The front in the order of the records. -/
theorem frontOf_eq {s : State} {removed : ClaimRecord → Bool} {fate : Request → Disposition} (htags : tagsDiffer s)
    (hkeeps : ∀ r ∈ s.req.list, ∀ q, fate r = .front q → q.tag = r.tag) :
    frontOf s removed fate = inTagOrder (removedTags s removed) (s.req.list.filterMap (returning fate)) := by
  have hothers : (s.req.list.filterMap (returning fate)).filter (fun r => decide (r.tag ∉ removedTags s removed))
      = (s.req.list.filter (fun r => decide (r.tag ∉ removedTags s removed))).filterMap (returning fate) := by
    rw [List.filter_filterMap, List.filterMap_filter]
    refine List.filterMap_congr fun r hr => ?_
    cases hreturns : returning fate r with
    | none => simp
    | some q =>
      rw [Option.filter_some, hkeeps r hr q ((returning_eq_some_iff fate r q).1 hreturns)]
  rw [inTagOrder, hothers, frontOf, ← funext (find_returning htags hkeeps)]
  rfl

/-! ### The state after the event (R30, R31, R34, R131) -/

theorem contains_tags (left : List ResultEntry) (g : Byte) :
    (left.map ResultEntry.tag).contains g = left.any (fun e => decide (e.tag = g)) := by
  rw [Bool.eq_iff_iff, List.contains_iff_mem, List.mem_map, List.any_eq_true]
  simp

/-- The records of departing requests lose their tags. -/
theorem detach_eq (own : StationId) (gone : List Byte) (table : List ClaimRecord) : detach own gone table
    = table.map (fun x =>
        if x.owner = own ∧ x.tag.any (fun g => gone.contains g) = true then { x with tag := none } else x) := by
  refine List.map_congr_left fun x _ => ?_
  by_cases howner : x.owner = own
  · cases htag : x.tag with
    | none => simp [ownTag, htag]
    | some g => simp [ownTag, howner, htag]
  · simp [ownTag, howner]

theorem filter_not_eq_ite (slot : Option Byte) (p : Byte → Bool) :
    slot.filter (fun g => !p g) = if slot.any p = true then none else slot := by
  cases slot with
  | none => rfl
  | some g =>
    by_cases h : p g = true
    · rw [Option.filter_some_neg (by simpa using h)]
      exact (if_pos h).symm
    · rw [Option.filter_some_pos (by simpa using h)]
      exact (if_neg h).symm

/-! The model's and the statements' reading of one fate. -/

theorem stays_eq_staying (d : Request → Disposition) (r : Request) : stays d r = staying d r := rfl

theorem fronts_eq_returning (d : Request → Disposition) (r : Request) : fronts d r = returning d r := rfl

theorem staying_congr {d fate : Request → Disposition} {r : Request} (h : d r = fate r) :
    staying d r = staying fate r := congrArg (fun x => staying (fun _ => x) r) h

theorem returning_congr {d fate : Request → Disposition} {r : Request} (h : d r = fate r) :
    returning d r = returning fate r := congrArg (fun x => returning (fun _ => x) r) h

section
variable {s : State} {removed : ClaimRecord → Bool} {d fate : Request → Disposition}

/-- An event that removes records and answers every request (R128, R131). -/
theorem State.settle_answered (htags : tagsDiffer s) (hown : ownTagsDiffer s) (hd : ∀ r ∈ s.req.list, d r = fate r)
    (hkeeps : ∀ r q, fate r = .front q → q.tag = r.tag)
    (hstart : ∀ r o why, fate r = .leave o why → (r.result o why).start = none) :
    State.settle { s with table := s.table.filter (fun x => !removed x) } (removedTags s removed) d
      = answeredAll s removed fate := by
  have hleft : s.req.list.filterMap (departure d) = s.req.list.filterMap (resultOf fate) :=
    List.filterMap_congr fun r hr => by
      rw [departure, resultOf, hd r hr]
      cases hfate : fate r with
      | leave o why =>
        have hnone := hstart r o why hfate
        rw [← hnone]
        rfl
      | stay _ | front _ => rfl
  have hkept : s.req.list.filterMap (stays d) = s.req.list.filterMap (staying fate) :=
    List.filterMap_congr fun r hr => (stays_eq_staying d r).trans (staying_congr (hd r hr))
  have hreturned : s.req.list.filterMap (fronts d) = s.req.list.filterMap (returning fate) :=
    List.filterMap_congr fun r hr => (fronts_eq_returning d r).trans (returning_congr (hd r hr))
  have hreturnedTags : ((s.req.list.filterMap (returning fate)).map Request.tag).Nodup := by
    refine List.pairwise_map.2 ((List.pairwise_map.1 htags).filterMap _ fun r r' hne q hq q' hq' heq => hne ?_)
    rw [← hkeeps r q ((returning_eq_some_iff _ _ _).1 hq), ← hkeeps r' q' ((returning_eq_some_iff _ _ _).1 hq'), heq]
  have hfront : orderByKey (placeOf (removedTags s removed)) (s.req.list.filterMap (returning fate))
      = frontOf s removed fate := by
    rw [orderByKey_placeOf (removedTags_nodup hown removed) hreturnedTags, frontOf_eq htags fun r _ => hkeeps r]
  have hany : ∀ g, (s.req.list.filterMap (returning fate)).any (fun r => r.tag == g)
      = (frontOf s removed fate).any (fun r => decide (r.tag = g)) := fun g => by
    rw [← hfront, Bool.eq_iff_iff, List.any_eq_true, List.any_eq_true]
    simp
  rw [State.settle, answeredAll, hleft, hkept, hreturned, hfront, detach_eq]
  simp only [contains_tags, hany, ← Bool.not_or, filter_not_eq_ite]
  rfl

end

end Sys2Proof.Machine
end

section
/-!
PROOFS. The fall and the drain at every request and record (O38 to O41).
-/

namespace Sys2Proof.Machine

open Sys2Proof.Said

/-! ### The fates (R137, R138, R143, R144) -/

theorem Request.voided_triedAgain (r : Request) : r.voided = triedAgain r := rfl

theorem abandoned_iff (s : State) (tag : Byte) :
    s.bus.transmit.frame.map Sending.slot = some (.cancel tag) ↔ s.onBus (.cancel tag) = true := by
  unfold State.onBus
  cases s.bus.transmit.frame <;> simp

theorem contains_removedTags (s : State) (removed : ClaimRecord → Bool) (g : Byte) :
    (removedTags s removed).contains g = struck s removed g := by
  rw [Bool.eq_iff_iff, List.contains_iff_mem, mem_removedTags_iff]

theorem State.exposedTags_eq (s : State) : s.exposedTags = removedTags s (fun x => decide (x.state = .pending)) :=
  voidedTags_eq s _

/-- What the Request Unit makes of a request at a fall is what the statements say. -/
theorem State.fallFate_eq (s : State) (r : Request) : s.fallFate r = fateAtFall s r := by
  have habandoned : ∀ p : Prop, s.bus.transmit.frame.map Sending.slot = some (.cancel r.tag) ∧ p
      ↔ s.onBus (.cancel r.tag) = true ∧ p := fun p => and_congr_left' (abandoned_iff s r.tag)
  rw [State.fallFate, Request.onFall, fateAtFall, State.exposedTags_eq, contains_removedTags]
  simp only [habandoned]
  cases struck s (fun x => decide (x.state = .pending)) r.tag with
  | true =>
    cases hst : r.state with
    | sending => rfl
    | waiting | pending | granted | firing | cancelling => simp [Request.onVoided, hst, Request.voided_triedAgain]
  | false =>
    cases hst : r.state with
    | sending | waiting | granted | firing => rfl
    | pending | cancelling => simp [Request.voided_triedAgain]

/-- A request that stays is the same, one that goes to the front is the same in WAITING, one that leaves is VOIDED or
CANCELLED. -/
structure Disposition.Ends (d : Disposition) (r : Request) : Prop where
  stay : ∀ q, d = .stay q → q = r
  front : ∀ q, d = .front q → q = again r
  leave : ∀ o why, d = .leave o why → o = .voided ∨ o = .cancelled

theorem Disposition.Ends.stays (r : Request) : (Disposition.stay r).Ends r :=
  ⟨fun _ h => by cases h; rfl, nofun, nofun⟩

theorem Disposition.Ends.cancelled (r : Request) : (Disposition.leave .cancelled .none).Ends r :=
  ⟨nofun, nofun, fun _ _ h => by cases h; exact .inr rfl⟩

theorem Disposition.Ends.again (r : Request) : (Disposition.front (again r)).Ends r :=
  ⟨nofun, fun _ h => by cases h; rfl, nofun⟩

theorem Disposition.Ends.triedAgain (r : Request) : (triedAgain r).Ends r := by
  unfold Said.triedAgain
  split
  · exact .again r
  · exact ⟨nofun, nofun, fun _ _ h => by cases h; exact .inl rfl⟩

theorem fateAtFall_ends (s : State) (r : Request) : (fateAtFall s r).Ends r := by
  unfold fateAtFall
  dsimp only
  cases r.state with
  | waiting | firing => exact .stays r
  | sending => dsimp only; split <;> [exact .cancelled r; exact .again r]
  | pending | granted => dsimp only; split <;> [exact .triedAgain r; exact .stays r]
  | cancelling => dsimp only; split <;> [exact .cancelled r; exact .stays r]

theorem fateAtDrain_ends (s : State) (tick : Tick) (r : Request) : (fateAtDrain s tick r).Ends r := by
  unfold fateAtDrain
  split
  · cases r.state with
    | waiting | sending | firing => exact .stays r
    | pending | granted => exact .triedAgain r
    | cancelling => exact .cancelled r
  · exact .stays r

/-- An event whose fates end so: the table, the list, the slots and the results (R128, R131). -/
theorem State.settle_ends {s : State} {removed : ClaimRecord → Bool} {d fate : Request → Disposition}
    (htags : tagsDiffer s) (hown : ownTagsDiffer s) (hd : ∀ r ∈ s.req.list, d r = fate r)
    (hends : ∀ r, (fate r).Ends r) :
    State.settle { s with table := s.table.filter (fun x => !removed x) } (removedTags s removed) d
      = answeredAll s removed fate := by
  refine State.settle_answered htags hown hd (fun r q hq => by rw [(hends r).front q hq]; rfl) fun r o why hleave => ?_
  obtain rfl | rfl := (hends r).leave o why hleave <;> rfl

/-- What became of one request. -/
theorem State.settle_at {s : State} {tags : List Byte} {d : Request → Disposition} (htags : tagsDiffer s)
    (hends : ∀ r, (d r).Ends r) {r : Request} (hr : r ∈ s.req.list) :
    (d r = .stay r → r ∈ (s.settle tags d).req.list)
    ∧ (d r = .front (again r) → again r ∈ (s.settle tags d).req.list)
    ∧ ∀ o why, d r = .leave o why → (∀ q ∈ (s.settle tags d).req.list, q.tag ≠ r.tag)
      ∧ r.result o why ∈ (s.settle tags d).port.results := by
  refine ⟨fun h => ?_, fun h => ?_, fun o why h => ⟨fun q hq htag => ?_, s.result_of_leave tags d r o why hr h⟩⟩
  · exact (s.mem_settle_list tags d r).2 ⟨r, hr, .inr h⟩
  · exact (s.mem_settle_list tags d (again r)).2 ⟨r, hr, .inl h⟩
  · obtain ⟨r', hr', hstays⟩ := (s.mem_settle_list tags d q).1 hq
    have htag' : q.tag = r'.tag := by
      obtain hfront | hstay := hstays
      · rw [(hends r').front q hfront]
        rfl
      · rw [(hends r').stay q hstay]
    obtain rfl := eq_of_tag_eq _ htags r' r hr' hr (htag'.symm.trans htag)
    rw [h] at hstays
    obtain hfront | hstay := hstays
    · cases hfront
    · cases hstay

/-! ### The fall (R30, R86, R103, R138) -/

theorem exec_stopFall {s : State} (h : fallDue s = true) : exec .stopFall s = .next s.takeFall := by
  show onEvent fallDue State.takeFall s = _
  rw [onEvent_due _ _ s h]

/-- Settles O38. -/
theorem fallStartsRecoveryAtEveryBlock : Obligations.FallStartsRecoveryAtEveryBlock := by
  intro s htags hown hon hhigh hlow htaken u
  have hsettled : s.fallSettled = u := by
    have htable : s.table.filter (fun x => decide (x.state = .confirmed))
        = s.table.filter (fun x => !decide (x.state = .pending)) :=
      List.filter_congr fun x _ => by cases x.state <;> rfl
    rw [State.fallSettled, htable, State.exposedTags_eq]
    exact State.settle_ends htags hown (fun r _ => s.fallFate_eq r) (fateAtFall_ends s)
  have hflag : (s.ctrl.station == .listening || s.ctrl.station == .active) = decide (s.ctrl.station ≠ .quiesce) := by
    obtain h | h | h := (receiving_iff _).1 hon <;> rw [h] <;> rfl
  rw [exec_stopFall ((isDue_iff_happens .stopFall s).2 ⟨hon, hhigh, hlow, htaken⟩), State.takeFall_eq, hsettled,
    unsyncRoster_eq, hflag, Controller.onFall_of_receiving hon]
  rfl

/-! ### The drain (R31, R104) -/

theorem exec_longClassification {s : State} (h : longDue s = true) :
    exec .longClassification s = .next s.classifyLong := by
  show onEvent longDue State.classifyLong s = _
  rw [onEvent_due _ _ s h]

/-- What a drain makes of a request is what the statements say. -/
theorem drainFate_eq (s : State) (tick : Tick) (r : Request) :
    (if (removedTags s (fun x => later x.start tick)).contains r.tag then r.onVoided else .stay r)
      = fateAtDrain s tick r := by
  rw [contains_removedTags, fateAtDrain]
  rfl

theorem State.drain_settle (s : State) (tick : Tick) : s.drain tick
    = State.settle { s with table := s.table.filter (fun x => !later x.start tick) }
      (removedTags s fun x => later x.start tick) (fateAtDrain s tick) := by
  rw [State.drain, voidedTags_eq s fun x => later x.start tick, funext (drainFate_eq s tick)]

theorem State.drain_eq {s : State} (htags : tagsDiffer s) (hown : ownTagsDiffer s) (tick : Tick) :
    s.drain tick = answeredAll s (fun x => later x.start tick) (fateAtDrain s tick) := by
  rw [State.drain_settle]
  exact State.settle_ends htags hown (fun r _ => rfl) (fateAtDrain_ends s tick)

/-- What became of one request at a drain. -/
theorem State.drain_at {s : State} (htags : tagsDiffer s) (tick : Tick) {r : Request} (hr : r ∈ s.req.list) :
    (fateAtDrain s tick r = .stay r → r ∈ (s.drain tick).req.list)
    ∧ (fateAtDrain s tick r = .front (again r) → again r ∈ (s.drain tick).req.list)
    ∧ ∀ o why, fateAtDrain s tick r = .leave o why → (∀ q ∈ (s.drain tick).req.list, q.tag ≠ r.tag)
      ∧ r.result o why ∈ (s.drain tick).port.results := by
  rw [State.drain_settle]
  exact State.settle_at htags (fateAtDrain_ends s tick) hr

/-- The pulse is LONG and counted, and the table not drained yet (R104). -/
def State.foundLong (s : State) : State :=
  State.count { s with stop := { s.stop with classification := .long (classificationTick s) } } .long

theorem State.classifyLong_eq (s : State) : s.classifyLong = s.foundLong.drain (classificationTick s) := rfl

/-- Settles O40. -/
theorem longPulseDrainsLaterStarts : Obligations.LongPulseDrainsLaterStarts := by
  intro s fall htags hown hon hlow hline hclass hfall hreached u
  have htick : classificationTick s = fall + 60 := by
    rw [classificationTick, hfall]
    rfl
  rw [exec_longClassification ((isDue_iff_happens .longClassification s).2
    ⟨hon, hlow, hline, hclass, fall, hfall, (reached_iff _ _).1 hreached⟩), State.classifyLong_eq,
    State.drain_eq (s := s.foundLong) htags hown, State.foundLong, htick]
  rfl

/-! ### What a drain makes of a request (R31, R137, R144) -/

theorem fateAtDrain_missed {s : State} {tick : Tick} {r : Request}
    (h : struck s (fun x => later x.start tick) r.tag = false) :
    fateAtDrain s tick r = .stay r := by
  rw [fateAtDrain, h]
  rfl

section
variable {s : State} {tick : Tick} {r : Request} (hit : struck s (fun x => later x.start tick) r.tag = true)
include hit

theorem fateAtDrain_claimed (hst : r.state = .granted ∨ r.state = .pending) : fateAtDrain s tick r = triedAgain r := by
  rw [fateAtDrain, if_pos hit]
  obtain h | h := hst <;> rw [h]

theorem fateAtDrain_cancelling (hst : r.state = .cancelling) : fateAtDrain s tick r = .leave .cancelled .none := by
  rw [fateAtDrain, if_pos hit, hst]

theorem fateAtDrain_other (hst : r.state = .waiting ∨ r.state = .sending ∨ r.state = .firing) :
    fateAtDrain s tick r = .stay r := by
  rw [fateAtDrain, if_pos hit]
  obtain h | h | h := hst <;> rw [h]

end

theorem triedAgain_few {r : Request} (h : r.attempts < 3) : triedAgain r = .front (again r) := if_pos h

theorem triedAgain_spent {r : Request} (h : r.attempts = 3) : triedAgain r = .leave .voided .attempts :=
  if_neg (by omega)

/-- A request whose record the drain removed goes back while it has attempts left. -/
theorem returning_drain {s : State} {tick : Tick} {r : Request}
    (hit : struck s (fun x => later x.start tick) r.tag = true) : returning (fateAtDrain s tick) r
      = if (r.state = .granted ∨ r.state = .pending) ∧ r.attempts < 3 then some (again r) else none := by
  rw [returning]
  by_cases hst : r.state = .granted ∨ r.state = .pending
  · rw [fateAtDrain_claimed hit hst]
    by_cases hfew : r.attempts < 3
    · rw [triedAgain_few hfew, if_pos ⟨hst, hfew⟩]
    · rw [triedAgain, if_neg hfew, if_neg fun h => hfew h.2]
  · rw [if_neg fun h => hst h.1]
    cases hstate : r.state with
    | granted => exact absurd (.inl hstate) hst
    | pending => exact absurd (.inr hstate) hst
    | cancelling => rw [fateAtDrain_cancelling hit hstate]
    | waiting | sending | firing => rw [fateAtDrain_other hit (by simp [hstate])]

/-- A request keeps its place at a drain unless its record was removed and it had announced its claim. -/
theorem staying_drain (s : State) (tick : Tick) (r : Request) : staying (fateAtDrain s tick) r
    = Option.guard (fun r => !struck s (fun x => later x.start tick) r.tag
        || decide (r.state = .waiting ∨ r.state = .sending ∨ r.state = .firing)) r := by
  rw [staying]
  cases hit : struck s (fun x => later x.start tick) r.tag with
  | false => rw [fateAtDrain_missed hit, Option.guard_pos (by simp [hit])]
  | true =>
    cases hstate : r.state with
    | waiting | sending | firing => rw [fateAtDrain_other hit (by simp [hstate]), Option.guard_pos (by simp [hstate])]
    | cancelling => rw [fateAtDrain_cancelling hit hstate, Option.guard_eq_none_iff.2 (by simp [hit, hstate])]
    | granted | pending =>
      rw [fateAtDrain_claimed hit (by simp [hstate]), Option.guard_eq_none_iff.2 (by simp [hit, hstate]), triedAgain]
      by_cases hfew : r.attempts < 3
      · rw [if_pos hfew]
      · rw [if_neg hfew]

/-- The front after a drain: the requests of the removed records, in the table's order, as far as they go back
(R128). -/
theorem frontOf_drain {s : State} (tick : Tick) :
    frontOf s (fun x => later x.start tick) (fateAtDrain s tick)
      = (s.table.filter (fun x => later x.start tick && decide (x.owner = s.ownId))).filterMap (fun x =>
          (x.tag.bind s.request).bind fun r => if (r.state = .granted ∨ r.state = .pending) ∧ r.attempts < 3
            then some (again r) else none) := by
  have hothers : (s.req.list.filter (fun r => decide (r.tag ∉ removedTags s fun x => later x.start tick))).filterMap
      (returning (fateAtDrain s tick)) = [] := List.filterMap_eq_nil_iff.2 fun r hr => by
    have hmissed : struck s (fun x => later x.start tick) r.tag = false := by
      have hnot := of_decide_eq_true (List.mem_filter.1 hr).2
      rw [mem_removedTags_iff] at hnot
      exact Bool.eq_false_iff.2 hnot
    rw [returning, fateAtDrain_missed hmissed]
  rw [frontOf, hothers, List.append_nil, removedTags, List.filterMap_filterMap]
  refine List.filterMap_congr fun x hx => ?_
  cases htag : x.tag with
  | none => rfl
  | some g =>
    have hrequest : s.req.list.find? (fun r => decide (r.tag = g)) = s.request g :=
      congrArg (s.req.list.find? ·) (funext fun r => (beq_eq_decide r.tag g).symm)
    rw [Option.bind_some, Option.bind_some, hrequest]
    cases hfound : s.request g with
    | none => rfl
    | some r =>
      have hrtag : r.tag = g := by simpa using List.find?_some hfound
      have hit : struck s (fun x => later x.start tick) r.tag = true := by
        rw [← mem_removedTags_iff, removedTags]
        exact List.mem_filterMap.2 ⟨x, hx, hrtag ▸ htag⟩
      exact returning_drain hit

/-- Settles O41. -/
theorem drainAnswersEachRequest : Obligations.DrainAnswersEachRequest := by
  intro s t hdue hinv hown hexec removed hit goesBack
  obtain ⟨-, -, htags, -⟩ := hinv
  obtain rfl : s.classifyLong = t := by
    rw [exec_longClassification hdue] at hexec
    cases hexec
    rfl
  have hstruck : ∀ r : Request, hit r = struck s (fun x => later x.start (classificationTick s)) r.tag := fun r => by
    refine congrArg (s.table.any ·) (funext fun x => ?_)
    rw [Bool.decide_and, ← Bool.and_assoc]
  have hanswered := State.drain_eq (s := s.foundLong) htags hown (classificationTick s)
  have hlist : s.classifyLong.req.list
      = frontOf s (fun x => later x.start (classificationTick s)) (fateAtDrain s (classificationTick s))
        ++ s.req.list.filterMap (staying (fateAtDrain s (classificationTick s))) :=
    congrArg (fun u => u.req.list) hanswered
  refine ⟨?_, fun r hr => ?_⟩
  · rw [hlist, frontOf_drain, funext (staying_drain s _), List.filterMap_eq_filter]
    refine congrArg₂ (· ++ ·) (List.filterMap_congr fun x _ => ?_) (List.filter_congr fun r _ => by rw [hstruck])
    simp only [goesBack, decide_eq_true_eq]
    rfl
  · intro result gone
    obtain ⟨hstay, hfront, hleave⟩ := State.drain_at (s := s.foundLong) htags (classificationTick s) hr
    rw [hstruck]
    refine ⟨fun hmissed => hstay (fateAtDrain_missed hmissed),
      fun hhit hst hfew => hfront ((fateAtDrain_claimed hhit hst).trans (triedAgain_few hfew)),
      fun hhit hst hspent => hleave _ _ ((fateAtDrain_claimed hhit hst).trans (triedAgain_spent hspent)),
      fun hhit hst => hleave _ _ (fateAtDrain_cancelling hhit hst)⟩

end Sys2Proof.Machine
end

section
/-!
PROOFS. What a fall of STOP_N makes of each request, and the one that goes back (O39).
-/

namespace Sys2Proof.Machine

open Sys2Proof.Said

/-- An own PENDING record carries the tag. -/
theorem struck_pending_iff (s : State) (g : Byte) : struck s (fun x => decide (x.state = .pending)) g = true
    ↔ ∃ x ∈ s.table, x.state = .pending ∧ x.owner = s.ownId ∧ x.tag = some g := by
  simp [struck]

/-! ### The fates at a fall, by request state (R137, R138, R143, R144) -/

section
variable {s : State} {r : Request}

theorem fateAtFall_standing (h : r.state = .waiting ∨ r.state = .firing) : fateAtFall s r = .stay r := by
  rw [fateAtFall]
  obtain h | h := h <;> rw [h]

theorem fateAtFall_sending (h : r.state = .sending) :
    fateAtFall s r = if r.mark then .leave .cancelled .none else .front (again r) := by
  rw [fateAtFall, h]

theorem fateAtFall_granted (h : r.state = .granted) : fateAtFall s r
    = if struck s (fun x => decide (x.state = .pending)) r.tag = true then triedAgain r else .stay r := by
  rw [fateAtFall, h]

theorem fateAtFall_pending (h : r.state = .pending) : fateAtFall s r
    = if struck s (fun x => decide (x.state = .pending)) r.tag = true ∨ r.start = none then triedAgain r
      else .stay r := by
  rw [fateAtFall, h]

theorem fateAtFall_cancelling (h : r.state = .cancelling) : fateAtFall s r
    = if struck s (fun x => decide (x.state = .pending)) r.tag = true
        ∨ s.onBus (.cancel r.tag) = true ∧ r.start.any (fun t => reached t s.now) = true then
      .leave .cancelled .none else .stay r := by
  rw [fateAtFall, h]

end

/-! ### The one request that goes back (R132, R138) -/

/-- At most one request is in negotiation. -/
theorem negotiating_unique {l : List Request} (h : (l.filter Request.negotiating).length ≤ 1) {q r : Request}
    (hq : q ∈ l) (hr : r ∈ l) (hqn : q.negotiating = true) (hrn : r.negotiating = true) : q = r := by
  have hq' := List.mem_filter.2 ⟨hq, hqn⟩
  have hr' := List.mem_filter.2 ⟨hr, hrn⟩
  cases hl : l.filter Request.negotiating with
  | nil =>
    rw [hl] at hq'
    cases hq'
  | cons a rest =>
    have hrest : rest = [] := List.eq_nil_of_length_eq_zero (by
      rw [hl, List.length_cons] at h
      omega)
    rw [hl, hrest, List.mem_singleton] at hq' hr'
    rw [hq', hr']

/-- A request that goes back at a fall was in negotiation: a GRANTED one has no PENDING record. -/
theorem negotiating_of_front {s : State} (htags : tagsDiffer s) (htie : tieInv s) {q p : Request} (hq : q ∈ s.req.list)
    (h : fateAtFall s q = .front p) : q.negotiating = true := by
  unfold Request.negotiating
  cases hst : q.state with
  | sending | pending => rfl
  | waiting | firing =>
    rw [fateAtFall_standing (by simp [hst])] at h
    cases h
  | cancelling =>
    rw [fateAtFall_cancelling hst] at h
    split at h <;> cases h
  | granted =>
    rw [fateAtFall_granted hst] at h
    split at h
    · next hstruck =>
      obtain ⟨x, hx, hpending, howner, htag⟩ := (struck_pending_iff s q.tag).1 hstruck
      obtain ⟨r, hr, hrtag, -, -, -, -, hstate⟩ := htie.1 x hx howner q.tag htag
      rw [eq_of_tag_eq _ htags r q hr hq hrtag, hst] at hstate
      rw [hpending] at hstate
      cases hstate
    · cases h

/-- The list after an event at which one request goes to the front. -/
theorem State.settle_list_returns {s : State} {tags : List Byte} {d : Request → Disposition} {r r' : Request}
    (hr : r ∈ s.req.list) (htags : tagsDiffer s) (hd : d r = .front r')
    (hs : ∀ q ∈ s.req.list, q.tag ≠ r.tag → ∀ p, d q ≠ .front p) :
    (s.settle tags d).req.list
      = r' :: (s.req.list.filter (fun q => decide (q.tag ≠ r.tag))).filterMap (staying d) := by
  obtain ⟨before, after, hlist, hbefore, hafter, hfilter⟩ := split_at_request hr htags
  have hnone : ∀ q ∈ s.req.list, q.tag ≠ r.tag → fronts d q = none := fun q hq hne => by
    have hnot := hs q hq hne
    unfold fronts
    cases hdq : d q with
    | front p => exact absurd hdq (hnot p)
    | stay _ | leave _ _ => rfl
  have hreturned : s.req.list.filterMap (fronts d) = [r'] := by
    have hb : before.filterMap (fronts d) = [] :=
      List.filterMap_eq_nil_iff.2 fun q hq => hnone q (by rw [hlist]; simp [hq]) (hbefore q hq)
    have ha : after.filterMap (fronts d) = [] :=
      List.filterMap_eq_nil_iff.2 fun q hq => hnone q (by rw [hlist]; simp [hq]) (hafter q hq)
    rw [hlist, List.filterMap_append, hb, List.filterMap_cons_some (by rw [fronts, hd]), ha, List.nil_append]
  have hkept : s.req.list.filterMap (stays d)
      = (s.req.list.filter (fun q => decide (q.tag ≠ r.tag))).filterMap (staying d) := by
    rw [hfilter, hlist, List.filterMap_append, List.filterMap_append, List.filterMap_cons_none (by rw [stays, hd])]
    rfl
  rw [State.settle_list, hreturned, hkept, orderByKey_singleton, List.singleton_append]

/-- The claim of a SENDING request leaves its slot, whether the request goes back or ends. -/
theorem claimSlot_after_fall {s : State} {tags : List Byte}
    (hclaim : ∀ g, s.req.claimSlot = some g → ∃ r ∈ s.req.list, r.tag = g ∧ r.state = .sending)
    (fate : Request → Disposition)
    (hfate : ∀ r, r.state = .sending → (∃ o why, fate r = .leave o why) ∨ fate r = .front (again r)) :
    (s.settle tags fate).req.claimSlot = none := by
  rw [State.settle]
  refine Option.filter_eq_none_iff.2 fun g hg => ?_
  obtain ⟨r, hr, rfl, hst⟩ := hclaim g hg
  obtain ⟨o, why, hleave⟩ | hfront := hfate r hst
  · have hgone : r.tag ∈ (s.req.list.filterMap (departure fate)).map ResultEntry.tag :=
      List.mem_map.2 ⟨r.result o why, List.mem_filterMap.2 ⟨r, hr, by rw [departure, hleave]⟩, rfl⟩
    rw [List.contains_iff_mem.2 hgone, Bool.not_true, Bool.false_and]
    exact Bool.false_ne_true
  · have hreturned : (s.req.list.filterMap (fronts fate)).any (fun q => q.tag == r.tag) = true :=
      List.any_eq_true.2 ⟨again r, List.mem_filterMap.2 ⟨r, hr, by rw [fronts, hfront]⟩, beq_self_eq_true r.tag⟩
    rw [hreturned, Bool.not_true, Bool.and_false]
    exact Bool.false_ne_true

/-- Settles O39. -/
theorem fallAnswersEachRequest : Obligations.FallAnswersEachRequest := by
  intro s t hdue hinv hslots hexec
  obtain ⟨-, -, htags, -, hone, -⟩ := hinv
  obtain ⟨-, hclaim, -⟩ := hslots
  obtain rfl : s.takeFall = t := by
    rw [exec_stopFall hdue] at hexec
    cases hexec
    rfl
  have hsettled : s.fallSettled = State.settle
      { s with table := s.table.filter (fun x : ClaimRecord => decide (x.state = .confirmed)) } s.exposedTags
      (fateAtFall s) := by rw [State.fallSettled, funext s.fallFate_eq]
  have hreq : s.takeFall.req = s.fallSettled.req := by rw [State.takeFall_eq]
  have hresults : s.takeFall.port = s.fallSettled.port := by rw [State.takeFall_eq]
  rw [hreq, hresults, hsettled]
  refine ⟨?_, fun r hr => ?_⟩
  · refine claimSlot_after_fall (s := { s with table := s.table.filter _ }) hclaim _ fun r hst => ?_
    rw [fateAtFall_sending hst]
    cases r.mark with
    | true => exact .inl ⟨_, _, rfl⟩
    | false => exact .inr rfl
  · intro struck' late result gone
    obtain ⟨hstay, hfront, hleave⟩ := State.settle_at
      (s := { s with table := s.table.filter (fun x : ClaimRecord => decide (x.state = .confirmed)) })
      (tags := s.exposedTags) htags (fateAtFall_ends s) hr
    have hstruck : struck s (fun x => decide (x.state = .pending)) r.tag = true ↔ struck' := struck_pending_iff s r.tag
    have hlate : s.onBus (.cancel r.tag) = true ∧ r.start.any (fun t => reached t s.now) = true ↔ late :=
      and_congr_right' (Option.any_eq_true _ _)
    have hreturns : r.state = .sending ∧ r.mark = false
        ∨ r.state = .pending ∧ (struck' ∨ r.start = none) ∧ r.attempts < 3 →
        fateAtFall s r = .front (again r) := by
      rintro (⟨hst, hmark⟩ | ⟨hst, hcase, hfew⟩)
      · rw [fateAtFall_sending hst, hmark]
        rfl
      · rw [fateAtFall_pending hst, if_pos (hcase.imp_left hstruck.2), triedAgain_few hfew]
    have hcancelled : r.state = .sending ∧ r.mark = true ∨ r.state = .cancelling ∧ (struck' ∨ late) →
        fateAtFall s r = .leave .cancelled .none := by
      rintro (⟨hst, hmark⟩ | ⟨hst, hcase⟩)
      · rw [fateAtFall_sending hst, hmark]
        rfl
      · rw [fateAtFall_cancelling hst, if_pos (hcase.imp hstruck.2 hlate.2)]
    refine ⟨fun hst => hstay (fateAtFall_standing hst), fun hst hmissed => hstay ?_,
      fun hst hmark => hfront (hreturns (.inl ⟨hst, hmark⟩)), fun htie hcase => ?_,
      fun hst hmissed hstart => hstay ?_, fun hst hcase hfew => hfront (hreturns (.inr ⟨hst, hcase, hfew⟩)),
      fun hst hcase hspent => hleave _ _ ?_, fun hst hmissed hearly => hstay ?_,
      fun hcase => hleave _ _ (hcancelled hcase)⟩
    · rw [fateAtFall_granted hst, if_neg (mt hstruck.1 hmissed)]
    · have hnegotiating : r.negotiating = true := by
        unfold Request.negotiating
        obtain ⟨hst, -⟩ | ⟨hst, -⟩ := hcase <;> rw [hst] <;> rfl
      exact State.settle_list_returns
        (s := { s with table := s.table.filter (fun x : ClaimRecord => decide (x.state = .confirmed)) }) hr htags
        (hreturns hcase) fun q hq hne p hp =>
          hne (congrArg Request.tag
            (negotiating_unique hone hq hr (negotiating_of_front htags htie hq hp) hnegotiating))
    · rw [fateAtFall_pending hst, if_neg fun h => h.elim (fun h => hmissed (hstruck.1 h)) hstart]
    · rw [fateAtFall_pending hst, if_pos (hcase.imp_left hstruck.2), triedAgain_spent hspent]
    · rw [fateAtFall_cancelling hst, if_neg fun h => h.elim (mt hstruck.1 hmissed) (mt hlate.1 hearly)]

end Sys2Proof.Machine
end

section
/-!
PROOFS. The earliest admissible start (O52).
-/

namespace Sys2Proof.Machine

open Sys2Proof.Said

/-! ### Stretches of ticks on a channel (R15) -/

/-- A tick that two stretches share lies at the difference of its two places. -/
theorem tickDiff_of_shared {t u : Tick} {k j : Nat} (hk : k < 2 ^ 31) (hj : j < 2 ^ 31)
    (h : t + BitVec.ofNat 32 k = u + BitVec.ofNat 32 j) : tickDiff u t = (k : Int) - j := by
  have hu : u = t + BitVec.ofInt 32 ((k : Int) - j) := by
    have hsum : BitVec.ofInt 32 ((k : Int) - j) + BitVec.ofNat 32 j = BitVec.ofNat 32 k := by
      rw [← BitVec.ofInt_natCast, ← BitVec.ofInt_add, Int.sub_add_cancel, BitVec.ofInt_natCast]
    rw [← hsum, ← BitVec.add_assoc] at h
    exact (BitVec.add_left_inj (BitVec.ofNat 32 j)).1 h.symm
  rw [hu]
  exact tickDiff_add_ofInt t _ (by omega) (by omega)

/-- A later tick is reached from an earlier one. -/
theorem add_ofNat_tickDiff {t u : Tick} (h : 0 ≤ tickDiff u t) : t + BitVec.ofNat 32 (tickDiff u t).toNat = u := by
  rw [← BitVec.ofInt_natCast, Int.toNat_of_nonneg h, add_ofInt_tickDiff]

/-- Two stretches overlap exactly when they share a tick. -/
theorem overlaps_iff (t u : Tick) {d e : Nat} (hd : d ≤ 2 ^ 31) (he : e ≤ 2 ^ 31) :
    overlaps t d u e = true ↔ ¬disjoint t d u e := by
  have hoverlaps : overlaps t d u e = true ↔ 0 < d ∧ 0 < e ∧ tickDiff u t < d ∧ -(e : Int) < tickDiff u t := by
    simp only [overlaps, Bool.and_eq_true, decide_eq_true_eq, and_assoc]
  rw [hoverlaps]
  refine ⟨fun ⟨hdpos, hepos, hbefore, hafter⟩ hdisjoint => ?_, fun hshare => ?_⟩
  · by_cases h : 0 ≤ tickDiff u t
    · refine hdisjoint (tickDiff u t).toNat (by omega) 0 hepos ?_
      rw [add_ofNat_tickDiff h]
      exact (BitVec.add_zero u).symm
    · have hswap := tickDiff_swap u t (by omega)
      refine hdisjoint 0 hdpos (tickDiff t u).toNat (by omega) ?_
      rw [add_ofNat_tickDiff (by omega)]
      exact BitVec.add_zero t
  · simp only [disjoint, not_forall, not_not] at hshare
    obtain ⟨k, hk, j, hj, heq⟩ := hshare
    have hdiff := tickDiff_of_shared (by omega) (by omega) heq
    omega

theorem channelOk_iff (s : State) (cls : ClassNo) (t : Tick) : channelOk s cls t = true
    ↔ (∀ x ∈ s.table, x.owner = s.ownId → s.channelOf x.cls = s.channelOf cls →
        disjoint t (s.classOf cls).duration x.start (s.classOf x.cls).duration)
      ∧ ∀ e, s.channel (s.channelOf cls) = some e →
        disjoint t (s.classOf cls).duration s.now (tickDiff e.endTick s.now).toNat := by
  have hd := s.duration_lt cls
  rw [channelOk, Bool.and_eq_true, List.all_eq_true]
  refine and_congr (forall₂_congr fun x _ => ?_) ?_
  · have hx := s.duration_lt x.cls
    rw [Bool.not_eq_true', Bool.eq_false_iff, ne_eq, Bool.and_eq_true, Bool.and_eq_true, beq_iff_eq, beq_iff_eq,
      overlaps_iff _ _ (by omega) (by omega)]
    tauto
  · cases hchannel : s.channel (s.channelOf cls) with
    | none => simp
    | some e =>
      have hend := tickDiff_bounds e.endTick s.now
      dsimp only
      rw [Bool.not_eq_true', Bool.eq_false_iff, ne_eq, overlaps_iff _ _ (by omega) (by omega), not_not]
      simp

/-! ### The conditions on one tick (R11, R12, R15) -/

/-- The weight of a stretch, with its bounds written out. -/
theorem stretchWeight_eq (table : List ClaimRecord) (t : Tick) (k len : Nat) : stretchWeight table t k len
    = ((table.filter (fun x => decide (-(k : Int) ≤ tickDiff x.start t
      ∧ tickDiff x.start t < (len : Int) - k))).map (fun x => x.weight.toNat)).sum := by
  rw [stretchWeight, show inStretch t k len = fun x => decide (-(k : Int) ≤ tickDiff x.start t
    ∧ tickDiff x.start t < (len : Int) - k) from funext fun x => (Bool.decide_and _ _).symm]

theorem startOk_iff {s : State} (hW : 0 < s.params.W) (r : Request) (t : Tick) :
    startOk s r t = true ↔ fits s r t := by
  obtain ⟨hbound, -, hmargin, -⟩ := s.params_bounds
  rw [startOk, Bool.and_eq_true, Bool.and_eq_true, spacingOk_iff,
    budgetOk_iff _ _ _ _ _ (by omega) (by omega), channelOk_iff, and_assoc]
  exact and_congr_right' (and_congr_left' (forall₂_congr fun k _ => by rw [stretchWeight_eq]))

/-! ### The window (R16, R49) -/

/-- The predicted frame end lies 75 ticks ahead. -/
theorem tickDiff_frameEnd (now : Tick) : tickDiff (now + 75) now = 75 := tickDiff_add_ofNat now 75 (by omega)

theorem windowLow_eq (s : State) (r : Request) : windowLow s r (s.now + 75)
    = max (tickDiff r.notBefore s.now) (75 + s.params.H + 2 * s.params.G) := by
  rw [windowLow, tickDiff_frameEnd, Params.minLead]
  push_cast
  rw [add_assoc]

theorem horizon_eq (s : State) : horizon s (s.now + 75) = 75 + s.params.dMax := by
  rw [horizon, tickDiff_frameEnd]

theorem windowHigh_eq (s : State) (r : Request) : windowHigh s r (s.now + 75)
    = min (tickDiff r.deadline s.now) (75 + s.params.dMax) := by
  rw [windowHigh, horizon_eq]

/-- With room, the search answers where the deadline was not over before it. -/
theorem earliestStart_room {s : State} (hroom : s.table.length < 48) (r : Request) (f : Tick) :
    (r.overdue = true → earliestStart s r f = .none .deadline)
    ∧ (r.overdue = false → (∀ t, searchWindow s r f = some t → earliestStart s r f = .start t)
      ∧ (searchWindow s r f = none → earliestStart s r f = .none (bindingLimit s r f))) := by
  have hfree : ¬(!hasRoom s.table) = true := by simpa [hasRoom_iff] using hroom
  unfold earliestStart
  rw [if_neg hfree]
  refine ⟨fun hover => if_pos hover, fun hover => ⟨fun t ht => ?_, fun hnone => ?_⟩⟩
  · rw [if_neg (by rw [hover]; exact Bool.false_ne_true), ht]
  · rw [if_neg (by rw [hover]; exact Bool.false_ne_true), hnone]

/-- The search finds the first tick of the window that fits. -/
theorem searchWindow_first {s : State} {r : Request} {f : Tick} {n : Int} (hlow : windowLow s r f ≤ n)
    (hhigh : n ≤ windowHigh s r f) (hok : startOk s r (s.now + BitVec.ofInt 32 n) = true)
    (hfirst : ∀ m, windowLow s r f ≤ m → m < n → startOk s r (s.now + BitVec.ofInt 32 m) = false) :
    searchWindow s r f = some (s.now + BitVec.ofInt 32 n) := by
  cases hsearch : searchWindow s r f with
  | none =>
    rw [searchWindow_none s r f hsearch n hlow hhigh] at hok
    cases hok
  | some u =>
    obtain ⟨k, hk, -, rfl, hfits, hbefore⟩ := searchWindow_some s r f u hsearch
    obtain hlt | rfl | hgt := lt_trichotomy k n
    · rw [hfirst k hk hlt] at hfits
      cases hfits
    · rfl
    · rw [hbefore n hlow hgt] at hok
      cases hok

/-- Settles O52. -/
theorem earliestStartIsTheFirstThatFits : Obligations.EarliestStartIsTheFirstThatFits := by
  intro s r hW lead horizon low high tick answer
  obtain ⟨-, -, -, hdMax⟩ := s.params_bounds
  have hok : ∀ n, startOk s r (tick n) = true ↔ fits s r (tick n) := fun n => startOk_iff hW r _
  have hnot : ∀ n, startOk s r (tick n) = false ↔ ¬fits s r (tick n) := fun n => by
    rw [← hok, Bool.not_eq_true]
  have hlow : windowLow s r (s.now + 75) = low := windowLow_eq s r
  have hhigh : windowHigh s r (s.now + 75) = high := windowHigh_eq s r
  refine ⟨earliestStart_full s r _, fun hroom hover => (earliestStart_room hroom r _).1 hover,
    fun hroom hover => ⟨fun n hn hle hfits hfirst => ?_, fun hnone => ?_⟩, fun t ht => ?_⟩
  · refine ((earliestStart_room hroom r _).2 hover).1 _ (searchWindow_first (hlow ▸ hn) (hhigh ▸ hle) ((hok n).2 hfits)
      fun m hm hlt => (hnot m).2 (hfirst m (hlow ▸ hm) hlt))
  · have hsearch : searchWindow s r (s.now + 75) = none := by
      cases hsearch : searchWindow s r (s.now + 75) with
      | none => rfl
      | some u =>
        obtain ⟨k, hk, hle, rfl, hfits, -⟩ := searchWindow_some s r _ u hsearch
        exact absurd ((hok k).1 hfits) (hnone k (hlow ▸ hk) (hhigh ▸ hle))
    refine (((earliestStart_room hroom r _).2 hover).2 hsearch).trans ?_
    rw [bindingLimit, horizon_eq]
  · obtain ⟨-, -, hsearch⟩ := (earliestStart_start s r _ t).1 ht
    obtain ⟨n, hn, hle, rfl, -⟩ := searchWindow_some s r _ t hsearch
    rw [windowLow_eq] at hn
    rw [windowHigh_eq] at hle
    have hnow : tickDiff (s.now + BitVec.ofInt 32 n) s.now = n := tickDiff_add_ofInt _ _ (by omega) (by omega)
    have hend : tickDiff s.now (s.now + 75) = -75 := tickDiff_plus_right s.now 75 (by omega)
    have hdiff := tickDiff_chain (s.now + BitVec.ofInt 32 n) s.now (s.now + 75) (by omega) (by omega)
    omega

end Sys2Proof.Machine
end

section
/-!
PROOFS. A record past its retire point changes no answer of the check (O53).
-/

namespace Sys2Proof.Machine

open Sys2Proof.Said

/-! ### A record outside every stretch and every distance (R11, R12) -/

theorem stretchWeight_perm {l l' : List ClaimRecord} (h : l.Perm l') (t : Tick) (k len : Nat) :
    stretchWeight l t k len = stretchWeight l' t k len := ((h.filter _).map _).sum_eq

theorem stretchWeight_erase {table : List ClaimRecord} {x : ClaimRecord} (hx : x ∈ table) {t : Tick} {k len : Nat}
    (hout : ¬inStretch t k len x = true) : stretchWeight (table.erase x) t k len = stretchWeight table t k len := by
  rw [stretchWeight_perm (List.perm_cons_erase hx), stretchWeight, stretchWeight, List.filter_cons_of_neg hout]

/-- The budget in every stretch, also in the empty one, where the claim's own weight decides. -/
theorem budgetOk_iff_of_weight {p : Params} {len : Nat} {table : List ClaimRecord} {t : Tick} {w : Nat}
    (hweight : w ≤ p.B) (hlen : len ≤ 2 ^ 20) :
    budgetOk p len table t w = true ↔ ∀ k < len, w + stretchWeight table t k len ≤ p.B := by
  obtain rfl | hpos := Nat.eq_zero_or_pos len
  · have hempty : stretchWeight table t 0 0 = 0 := by
      have hnone : table.filter (inStretch t 0 0) = [] := List.filter_eq_nil_iff.2 fun y _ hin => by
        rw [inStretch_iff] at hin
        omega
      rw [stretchWeight, hnone]
      rfl
    refine ⟨fun _ k hk => absurd hk (Nat.not_lt_zero k), fun _ => List.all_eq_true.2 fun k hk => decide_eq_true ?_⟩
    obtain rfl | ⟨y, _, _, hk'⟩ := (mem_stretchStarts_iff _ _ _ _).1 hk
    · rw [hempty]
      exact hweight
    · exact absurd hk' (Nat.not_lt_zero k)
  · exact budgetOk_iff p len table t w hpos hlen

/-- A record from whose start the span `n` is over lies further than `n` before every later start (R18). -/
theorem tickDiff_of_retired {x : ClaimRecord} {c now : Tick} {n : Nat} (hn : n ≤ 2 ^ 20) (hlater : 0 < tickDiff c now)
    (hnear : tickDiff c now ≤ 2 ^ 20) (hrecent : -(2 ^ 20 : Int) ≤ tickDiff x.start now)
    (hbound : tickDiff x.start now ≤ 2 ^ 20)
    (hretired : reached (x.start + BitVec.ofNat 32 n) now = true) :
    (n : Int) < tickDiff c x.start ∧ tickDiff x.start c = -tickDiff c x.start := by
  rw [reached_iff] at hretired
  have hback := tickDiff_swap x.start now (by omega)
  have hspan : tickDiff x.start (x.start + BitVec.ofNat 32 n) = -n := tickDiff_plus_right x.start n (by omega)
  have hpoint := tickDiff_chain now x.start (x.start + BitVec.ofNat 32 n) (by omega) (by omega)
  have hstart := tickDiff_chain c now x.start (by omega) (by omega)
  exact ⟨by omega, tickDiff_swap c x.start (by omega)⟩

section
variable {p : Params} {m n : Nat} {table : List ClaimRecord} {x : ClaimRecord} {c : Claim} (hx : x ∈ table)
  (hfar : (n : Int) < tickDiff c.start x.start) (hback : tickDiff x.start c.start = -tickDiff c.start x.start)
include hx hfar

theorem spacingOk_erase (hshort : p.sShort + m ≤ n) (hlong : p.sLong + m ≤ n) :
    spacingOk p m (table.erase x) c.start c.group = spacingOk p m table c.start c.group := by
  rw [Bool.eq_iff_iff, spacingOk_iff, spacingOk_iff]
  refine ⟨fun h y hy => ?_, fun h y hy => h y (List.mem_of_mem_erase hy)⟩
  obtain rfl | hy := List.mem_cons.1 ((List.perm_cons_erase hx).mem_iff.1 hy)
  · exact ⟨by omega, fun _ => by omega⟩
  · exact h y hy

include hback

theorem budgetOk_erase (hspan : p.W + m ≤ n) (hn : n ≤ 2 ^ 20) (hweight : c.weight ≤ p.B) :
    budgetOk p (p.W + m) (table.erase x) c.start c.weight = budgetOk p (p.W + m) table c.start c.weight := by
  rw [Bool.eq_iff_iff, budgetOk_iff_of_weight hweight (by omega), budgetOk_iff_of_weight hweight (by omega)]
  refine forall₂_congr fun k hk => ?_
  rw [stretchWeight_erase hx]
  rw [inStretch_iff]
  omega

end

/-! ### The check with and without the record (R13, R18) -/

/-- In range the check answers PASS or FIT. -/
theorem admissionCheck_inRange {p : Params} {c : Claim} (h : inRange p c = true) (m : Nat) (table : List ClaimRecord) :
    admissionCheck p m table c = if hasRoom table && spacingOk p m table c.start c.group
      && budgetOk p (p.W + m) table c.start c.weight then .pass else .fit := by
  rw [admissionCheck, h]
  rfl

/-- Settles O53. -/
theorem retiredRecordChangesNoAnswer : Obligations.RetiredRecordChangesNoAnswer := by
  intro p table c x now m hshortLong hlongW hspan hm hlater hnear hrecent hx hretired before after
  obtain ⟨hlow, hhigh⟩ := hrecent x hx
  obtain ⟨hfar, hback⟩ := tickDiff_of_retired hspan hlater hnear hlow hhigh hretired
  have hmargin : m ≤ 2 * p.G := by omega
  have hlength : (table.erase x).length = table.length - 1 := List.length_erase_of_mem hx
  have hpositive : 0 < table.length := List.length_pos_of_mem hx
  have hroom : table.length ≠ 48 → hasRoom (table.erase x) = hasRoom table := fun hne => by
    rw [Bool.eq_iff_iff, hasRoom_iff, hasRoom_iff, hlength]
    omega
  by_cases hrange : inRange p c = true
  · have hweight : c.weight ≤ p.B := ((inRange_iff p c).1 hrange).2.2.2
    have hspacing := spacingOk_erase (p := p) (m := m) hx hfar (by omega) (by omega)
    have hbudget := budgetOk_erase (p := p) (m := m) hx hfar hback (by omega) hspan hweight
    have hafter : after = if hasRoom (table.erase x) && spacingOk p m table c.start c.group
        && budgetOk p (p.W + m) table c.start c.weight then .pass else .fit := by
      rw [← hspacing, ← hbudget]
      exact admissionCheck_inRange hrange m _
    have hbefore := admissionCheck_inRange hrange m table
    refine ⟨fun hne => ?_, fun hfull => .inr ⟨?_, ?_, ?_⟩⟩
    · rw [hafter, hroom hne]
      exact hbefore.symm
    · have hnoRoom : hasRoom table = false := by rw [hasRoom, hfull]; rfl
      refine hbefore.trans ?_
      rw [hnoRoom]
      rfl
    · rw [hafter]
      exact (ite_eq_or_eq _ _ _).symm
    · have hfree : hasRoom (table.erase x) = true := by rw [hasRoom_iff, hlength]; omega
      have hpass := admissionCheck_pass_iff p m (table.erase x) c
      rw [hspacing, hbudget, spacingOk_iff, budgetOk_iff_of_weight hweight (by omega)] at hpass
      simp only [stretchWeight_add] at hpass
      exact hpass.trans ⟨fun ⟨_, _, hfits⟩ => hfits, fun hfits => ⟨hrange, hfree, hfits⟩⟩
  · have hboth : before = .range ∧ after = .range :=
      ⟨(admissionCheck_range_iff ..).2 hrange, (admissionCheck_range_iff ..).2 hrange⟩
    exact ⟨fun _ => hboth.2.trans hboth.1.symm, fun _ => .inl hboth⟩

end Sys2Proof.Machine
end
